-- ==== Sys2Proof/Word.lean ====
section
/-! DEFINITION. The word types of the machine (00_scope.md R5, R7): a data byte, a 16-bit word (address, index
register, register pair), and the halves of a word. -/

namespace Sys2Proof

/-- A data byte, 8 bits; bit 0 is the least significant (00_scope.md R5, R7). -/
abbrev Byte := BitVec 8

/-- A 16-bit value: a memory address, PC, SP, IX, IY or a register pair (00_scope.md R5). -/
abbrev Word := BitVec 16

end Sys2Proof
end

