-- ==== Sys2Proof/Syntax.lean ====
section
/-! DEFINITION. The instructions of the machine: one constructor per row of opcode_table.json, with the operands
the row's fields give, and the operand types behind the fields (30_encoding.md R116 to R120, R125). -/

namespace Sys2Proof

/-- The 8-bit general registers an `r` field names (30_encoding.md R116; 10_state.md R41). -/
inductive Reg where
  | b | c | d | e | h | l | a
  deriving DecidableEq, Repr

/-- The register pairs of the `dd` and `ss` fields (30_encoding.md R117). -/
inductive Pair where
  | bc | de | hl | sp
  deriving DecidableEq, Repr

/-- The register pairs of the `qq` field, PUSH and POP (30_encoding.md R117). -/
inductive StackPair where
  | bc | de | hl | af
  deriving DecidableEq, Repr

/-- The pairs of the `pp` field of ADD IX,pp (30_encoding.md R117). -/
inductive IXPair where
  | bc | de | ix | sp
  deriving DecidableEq, Repr

/-- The pairs of the `rr` field of ADD IY,rr (30_encoding.md R117). -/
inductive IYPair where
  | bc | de | iy | sp
  deriving DecidableEq, Repr

/-- The conditions of the `cc` field (30_encoding.md R118). -/
inductive Cond where
  | nz | z | nc | c | po | pe | p | m
  deriving DecidableEq, Repr

/-- The instructions, in the order of opcode_table.json. Operands: `n` an 8-bit immediate or port number, `nn` a
16-bit immediate or address, `d` the index displacement byte, `disp` the stored byte e - 2 of a relative jump
(44_jp_jr.md R345), `b` a bit number, `p` a restart address (30_encoding.md R119, R120, R125). -/
inductive Instr where
  /-- ADC HL,ss, `11101101 01ss1010` (R200). -/
  | adcHLSs (ss : Pair)
  /-- ADC A,r, `10001rrr` (R201). -/
  | adcAR (r : Reg)
  /-- ADC A,n, `11001110 nnnnnnnn` (R202). -/
  | adcAN (n : Byte)
  /-- ADC A,(HL), `10001110` (R203). -/
  | adcAAtHL
  /-- ADC A,(IX+d), `11011101 10001110 dddddddd` (R204). -/
  | adcAAtIX (d : Byte)
  /-- ADC A,(IY+d), `11111101 10001110 dddddddd` (R205). -/
  | adcAAtIY (d : Byte)
  /-- ADD A,n, `11000110 nnnnnnnn` (R206). -/
  | addAN (n : Byte)
  /-- ADD A,r, `10000rrr` (R207). -/
  | addAR (r : Reg)
  /-- ADD A,(HL), `10000110` (R208). -/
  | addAAtHL
  /-- ADD A,(IX+d), `11011101 10000110 dddddddd` (R209). -/
  | addAAtIX (d : Byte)
  /-- ADD A,(IY+d), `11111101 10000110 dddddddd` (R210). -/
  | addAAtIY (d : Byte)
  /-- ADD HL,ss, `00ss1001` (R211). -/
  | addHLSs (ss : Pair)
  /-- ADD IX,pp, `11011101 00pp1001` (R212). -/
  | addIXPp (pp : IXPair)
  /-- ADD IY,rr, `11111101 00rr1001` (R213). -/
  | addIYRr (rr : IYPair)
  /-- AND r, `10100rrr` (R214). -/
  | andR (r : Reg)
  /-- AND n, `11100110 nnnnnnnn` (R215). -/
  | andN (n : Byte)
  /-- AND (HL), `10100110` (R216). -/
  | andAtHL
  /-- AND (IX+d), `11011101 10100110 dddddddd` (R217). -/
  | andAtIX (d : Byte)
  /-- AND (IY+d), `11111101 10100110 dddddddd` (R218). -/
  | andAtIY (d : Byte)
  /-- BIT b,(HL), `11001011 01bbb110` (R230). -/
  | bitBAtHL (b : BitVec 3)
  /-- BIT b,(IX+d), `11011101 11001011 dddddddd 01bbb110` (R231). -/
  | bitBAtIX (b : BitVec 3) (d : Byte)
  /-- BIT b,(IY+d), `11111101 11001011 dddddddd 01bbb110` (R232). -/
  | bitBAtIY (b : BitVec 3) (d : Byte)
  /-- BIT b,r, `11001011 01bbbrrr` (R233). -/
  | bitBR (b : BitVec 3) (r : Reg)
  /-- CALL cc,nn, `11ccc100 llllllll hhhhhhhh` (R234). -/
  | callCcNN (cc : Cond) (nn : Word)
  /-- CALL nn, `11001101 llllllll hhhhhhhh` (R235). -/
  | callNN (nn : Word)
  /-- CCF, `00111111` (R236). -/
  | ccf
  /-- CP r, `10111rrr` (R237). -/
  | cpR (r : Reg)
  /-- CP n, `11111110 nnnnnnnn` (R238). -/
  | cpN (n : Byte)
  /-- CP (HL), `10111110` (R239). -/
  | cpAtHL
  /-- CP (IX+d), `11011101 10111110 dddddddd` (R240). -/
  | cpAtIX (d : Byte)
  /-- CP (IY+d), `11111101 10111110 dddddddd` (R241). -/
  | cpAtIY (d : Byte)
  /-- CPD, `11101101 10101001` (R242). -/
  | cpd
  /-- CPDR, `11101101 10111001` (R243). -/
  | cpdr
  /-- CPI, `11101101 10100001` (R244). -/
  | cpi
  /-- CPIR, `11101101 10110001` (R245). -/
  | cpir
  /-- CPL, `00101111` (R246). -/
  | cpl
  /-- DAA, `00100111` (R270). -/
  | daa
  /-- DEC r, `00rrr101` (R271). -/
  | decR (r : Reg)
  /-- DEC (HL), `00110101` (R272). -/
  | decAtHL
  /-- DEC (IX+d), `11011101 00110101 dddddddd` (R273). -/
  | decAtIX (d : Byte)
  /-- DEC (IY+d), `11111101 00110101 dddddddd` (R274). -/
  | decAtIY (d : Byte)
  /-- DEC IX, `11011101 00101011` (R275). -/
  | decIX
  /-- DEC IY, `11111101 00101011` (R276). -/
  | decIY
  /-- DEC ss, `00ss1011` (R277). -/
  | decSs (ss : Pair)
  /-- DI, `11110011` (R278). -/
  | di
  /-- DJNZ e, `00010000 eeeeeeee` (R279). -/
  | djnz (disp : Byte)
  /-- EI, `11111011` (R283). -/
  | ei
  /-- EX (SP),HL, `11100011` (R284). -/
  | exAtSPHL
  /-- EX (SP),IX, `11011101 11100011` (R285). -/
  | exAtSPIX
  /-- EX (SP),IY, `11111101 11100011` (R289). -/
  | exAtSPIY
  /-- EX AF,AF', `00001000` (R286). -/
  | exAFAF
  /-- EX DE,HL, `11101011` (R287). -/
  | exDEHL
  /-- EXX, `11011001` (R288). -/
  | exx
  /-- HALT, `01110110` (R300). -/
  | halt
  /-- IM 0, `11101101 01000110` (R301). -/
  | im0
  /-- IM 1, `11101101 01010110` (R302). -/
  | im1
  /-- IM 2, `11101101 01011110` (R303). -/
  | im2
  /-- IN A,(n), `11011011 nnnnnnnn` (R304). -/
  | inAN (n : Byte)
  /-- IN r,(C), `11101101 01rrr000` (R305). -/
  | inRC (r : Reg)
  /-- INC (HL), `00110100` (R306). -/
  | incAtHL
  /-- INC IX, `11011101 00100011` (R307). -/
  | incIX
  /-- INC (IX+d), `11011101 00110100 dddddddd` (R308). -/
  | incAtIX (d : Byte)
  /-- INC IY, `11111101 00100011` (R309). -/
  | incIY
  /-- INC (IY+d), `11111101 00110100 dddddddd` (R310). -/
  | incAtIY (d : Byte)
  /-- INC r, `00rrr100` (R311). -/
  | incR (r : Reg)
  /-- INC ss, `00ss0011` (R312). -/
  | incSs (ss : Pair)
  /-- IND, `11101101 10101010` (R313). -/
  | ind
  /-- INDR, `11101101 10111010` (R314). -/
  | indr
  /-- INI, `11101101 10100010` (R315). -/
  | ini
  /-- INIR, `11101101 10110010` (R316). -/
  | inir
  /-- JP (HL), `11101001` (R340). -/
  | jpHL
  /-- JP (IX), `11011101 11101001` (R341). -/
  | jpIX
  /-- JP (IY), `11111101 11101001` (R342). -/
  | jpIY
  /-- JP cc,nn, `11ccc010 llllllll hhhhhhhh` (R343). -/
  | jpCcNN (cc : Cond) (nn : Word)
  /-- JP nn, `11000011 llllllll hhhhhhhh` (R344). -/
  | jpNN (nn : Word)
  /-- JR e, `00011000 eeeeeeee` (R346). -/
  | jr (disp : Byte)
  /-- JR C,e, `00111000 eeeeeeee` (R347). -/
  | jrC (disp : Byte)
  /-- JR NC,e, `00110000 eeeeeeee` (R348). -/
  | jrNC (disp : Byte)
  /-- JR NZ,e, `00100000 eeeeeeee` (R349). -/
  | jrNZ (disp : Byte)
  /-- JR Z,e, `00101000 eeeeeeee` (R350). -/
  | jrZ (disp : Byte)
  /-- LD A,(BC), `00001010` (R361). -/
  | ldAAtBC
  /-- LD A,(DE), `00011010` (R362). -/
  | ldAAtDE
  /-- LD A,I, `11101101 01010111` (R363). -/
  | ldAI
  /-- LD A,(nn), `00111010 llllllll hhhhhhhh` (R364). -/
  | ldAAtNN (nn : Word)
  /-- LD A,R, `11101101 01011111` (R365). -/
  | ldARefresh
  /-- LD (BC),A, `00000010` (R366). -/
  | ldAtBCA
  /-- LD (DE),A, `00010010` (R367). -/
  | ldAtDEA
  /-- LD (HL),n, `00110110 nnnnnnnn` (R368). -/
  | ldAtHLN (n : Byte)
  /-- LD dd,nn, `00dd0001 llllllll hhhhhhhh` (R369). -/
  | ldDdNN (dd : Pair) (nn : Word)
  /-- LD dd,(nn), `11101101 01dd1011 llllllll hhhhhhhh` (R370). -/
  | ldDdAtNN (dd : Pair) (nn : Word)
  /-- LD HL,(nn), `00101010 llllllll hhhhhhhh` (R371). -/
  | ldHLAtNN (nn : Word)
  /-- LD (HL),r, `01110rrr` (R372). -/
  | ldAtHLR (r : Reg)
  /-- LD I,A, `11101101 01000111` (R373). -/
  | ldIA
  /-- LD IX,nn, `11011101 00100001 llllllll hhhhhhhh` (R374). -/
  | ldIXNN (nn : Word)
  /-- LD IX,(nn), `11011101 00101010 llllllll hhhhhhhh` (R375). -/
  | ldIXAtNN (nn : Word)
  /-- LD (IX+d),n, `11011101 00110110 dddddddd nnnnnnnn` (R376). -/
  | ldAtIXN (d : Byte) (n : Byte)
  /-- LD (IX+d),r, `11011101 01110rrr dddddddd` (R377). -/
  | ldAtIXR (d : Byte) (r : Reg)
  /-- LD IY,nn, `11111101 00100001 llllllll hhhhhhhh` (R378). -/
  | ldIYNN (nn : Word)
  /-- LD IY,(nn), `11111101 00101010 llllllll hhhhhhhh` (R379). -/
  | ldIYAtNN (nn : Word)
  /-- LD (IY+d),n, `11111101 00110110 dddddddd nnnnnnnn` (R380). -/
  | ldAtIYN (d : Byte) (n : Byte)
  /-- LD (IY+d),r, `11111101 01110rrr dddddddd` (R381). -/
  | ldAtIYR (d : Byte) (r : Reg)
  /-- LD (nn),A, `00110010 llllllll hhhhhhhh` (R400). -/
  | ldAtNNA (nn : Word)
  /-- LD (nn),dd, `11101101 01dd0011 llllllll hhhhhhhh` (R401). -/
  | ldAtNNDd (nn : Word) (dd : Pair)
  /-- LD (nn),HL, `00100010 llllllll hhhhhhhh` (R402). -/
  | ldAtNNHL (nn : Word)
  /-- LD (nn),IX, `11011101 00100010 llllllll hhhhhhhh` (R403). -/
  | ldAtNNIX (nn : Word)
  /-- LD (nn),IY, `11111101 00100010 llllllll hhhhhhhh` (R404). -/
  | ldAtNNIY (nn : Word)
  /-- LD R,A, `11101101 01001111` (R405). -/
  | ldRefreshA
  /-- LD r,(HL), `01rrr110` (R406). -/
  | ldRAtHL (r : Reg)
  /-- LD r,(IX+d), `11011101 01rrr110 dddddddd` (R407). -/
  | ldRAtIX (r : Reg) (d : Byte)
  /-- LD r,(IY+d), `11111101 01rrr110 dddddddd` (R408). -/
  | ldRAtIY (r : Reg) (d : Byte)
  /-- LD r,n, `00rrr110 nnnnnnnn` (R409). -/
  | ldRN (r : Reg) (n : Byte)
  /-- LD r,r', `01rrrsss` (R410). -/
  | ldRR (r : Reg) (r' : Reg)
  /-- LD SP,HL, `11111001` (R411). -/
  | ldSPHL
  /-- LD SP,IX, `11011101 11111001` (R412). -/
  | ldSPIX
  /-- LD SP,IY, `11111101 11111001` (R413). -/
  | ldSPIY
  /-- LDD, `11101101 10101000` (R414). -/
  | ldd
  /-- LDDR, `11101101 10111000` (R415). -/
  | lddr
  /-- LDI, `11101101 10100000` (R416). -/
  | ldi
  /-- LDIR, `11101101 10110000` (R417). -/
  | ldir
  /-- NEG, `11101101 01000100` (R440). -/
  | neg
  /-- NOP, `00000000` (R441). -/
  | nop
  /-- OR r, `10110rrr` (R443). -/
  | orR (r : Reg)
  /-- OR n, `11110110 nnnnnnnn` (R444). -/
  | orN (n : Byte)
  /-- OR (HL), `10110110` (R445). -/
  | orAtHL
  /-- OR (IX+d), `11011101 10110110 dddddddd` (R446). -/
  | orAtIX (d : Byte)
  /-- OR (IY+d), `11111101 10110110 dddddddd` (R447). -/
  | orAtIY (d : Byte)
  /-- OTDR, `11101101 10111011` (R448). -/
  | otdr
  /-- OTIR, `11101101 10110011` (R449). -/
  | otir
  /-- OUT (C),r, `11101101 01rrr001` (R450). -/
  | outCR (r : Reg)
  /-- OUT (n),A, `11010011 nnnnnnnn` (R451). -/
  | outNA (n : Byte)
  /-- OUTD, `11101101 10101011` (R452). -/
  | outd
  /-- OUTI, `11101101 10100011` (R453). -/
  | outi
  /-- POP IX, `11011101 11100001` (R454). -/
  | popIX
  /-- POP IY, `11111101 11100001` (R455). -/
  | popIY
  /-- POP qq, `11qq0001` (R456). -/
  | popQq (qq : StackPair)
  /-- PUSH IX, `11011101 11100101` (R457). -/
  | pushIX
  /-- PUSH IY, `11111101 11100101` (R458). -/
  | pushIY
  /-- PUSH qq, `11qq0101` (R459). -/
  | pushQq (qq : StackPair)
  /-- RES b,r, `11001011 10bbbrrr` (R480). -/
  | resBR (b : BitVec 3) (r : Reg)
  /-- RES b,(HL), `11001011 10bbb110` (R481). -/
  | resBAtHL (b : BitVec 3)
  /-- RES b,(IX+d), `11011101 11001011 dddddddd 10bbb110` (R482). -/
  | resBAtIX (b : BitVec 3) (d : Byte)
  /-- RES b,(IY+d), `11111101 11001011 dddddddd 10bbb110` (R483). -/
  | resBAtIY (b : BitVec 3) (d : Byte)
  /-- RET, `11001001` (R484). -/
  | ret
  /-- RET cc, `11ccc000` (R485). -/
  | retCc (cc : Cond)
  /-- RETI, `11101101 01001101` (R486). -/
  | reti
  /-- RETN, `11101101 01000101` (R487). -/
  | retn
  /-- RL r, `11001011 00010rrr` (R488). -/
  | rlR (r : Reg)
  /-- RL (HL), `11001011 00010110` (R489). -/
  | rlAtHL
  /-- RL (IX+d), `11011101 11001011 dddddddd 00010110` (R490). -/
  | rlAtIX (d : Byte)
  /-- RL (IY+d), `11111101 11001011 dddddddd 00010110` (R491). -/
  | rlAtIY (d : Byte)
  /-- RLA, `00010111` (R492). -/
  | rla
  /-- RLC (HL), `11001011 00000110` (R493). -/
  | rlcAtHL
  /-- RLC (IX+d), `11011101 11001011 dddddddd 00000110` (R494). -/
  | rlcAtIX (d : Byte)
  /-- RLC (IY+d), `11111101 11001011 dddddddd 00000110` (R495). -/
  | rlcAtIY (d : Byte)
  /-- RLC r, `11001011 00000rrr` (R496). -/
  | rlcR (r : Reg)
  /-- RLCA, `00000111` (R497). -/
  | rlca
  /-- RLD, `11101101 01101111` (R498). -/
  | rld
  /-- RR r, `11001011 00011rrr` (R499). -/
  | rrR (r : Reg)
  /-- RR (HL), `11001011 00011110` (R500). -/
  | rrAtHL
  /-- RR (IX+d), `11011101 11001011 dddddddd 00011110` (R501). -/
  | rrAtIX (d : Byte)
  /-- RR (IY+d), `11111101 11001011 dddddddd 00011110` (R502). -/
  | rrAtIY (d : Byte)
  /-- RRA, `00011111` (R503). -/
  | rra
  /-- RRC r, `11001011 00001rrr` (R504). -/
  | rrcR (r : Reg)
  /-- RRC (HL), `11001011 00001110` (R505). -/
  | rrcAtHL
  /-- RRC (IX+d), `11011101 11001011 dddddddd 00001110` (R506). -/
  | rrcAtIX (d : Byte)
  /-- RRC (IY+d), `11111101 11001011 dddddddd 00001110` (R507). -/
  | rrcAtIY (d : Byte)
  /-- RRCA, `00001111` (R508). -/
  | rrca
  /-- RRD, `11101101 01100111` (R509). -/
  | rrd
  /-- RST p, `11ttt111` (R510). -/
  | rst (p : Byte)
  /-- SBC A,r, `10011rrr` (R540). -/
  | sbcAR (r : Reg)
  /-- SBC A,n, `11011110 nnnnnnnn` (R541). -/
  | sbcAN (n : Byte)
  /-- SBC A,(HL), `10011110` (R542). -/
  | sbcAAtHL
  /-- SBC A,(IX+d), `11011101 10011110 dddddddd` (R543). -/
  | sbcAAtIX (d : Byte)
  /-- SBC A,(IY+d), `11111101 10011110 dddddddd` (R544). -/
  | sbcAAtIY (d : Byte)
  /-- SBC HL,ss, `11101101 01ss0010` (R545). -/
  | sbcHLSs (ss : Pair)
  /-- SCF, `00110111` (R546). -/
  | scf
  /-- SET b,(HL), `11001011 11bbb110` (R547). -/
  | setBAtHL (b : BitVec 3)
  /-- SET b,(IX+d), `11011101 11001011 dddddddd 11bbb110` (R548). -/
  | setBAtIX (b : BitVec 3) (d : Byte)
  /-- SET b,(IY+d), `11111101 11001011 dddddddd 11bbb110` (R549). -/
  | setBAtIY (b : BitVec 3) (d : Byte)
  /-- SET b,r, `11001011 11bbbrrr` (R550). -/
  | setBR (b : BitVec 3) (r : Reg)
  /-- SLA r, `11001011 00100rrr` (R551). -/
  | slaR (r : Reg)
  /-- SLA (HL), `11001011 00100110` (R552). -/
  | slaAtHL
  /-- SLA (IX+d), `11011101 11001011 dddddddd 00100110` (R553). -/
  | slaAtIX (d : Byte)
  /-- SLA (IY+d), `11111101 11001011 dddddddd 00100110` (R554). -/
  | slaAtIY (d : Byte)
  /-- SRA r, `11001011 00101rrr` (R555). -/
  | sraR (r : Reg)
  /-- SRA (HL), `11001011 00101110` (R556). -/
  | sraAtHL
  /-- SRA (IX+d), `11011101 11001011 dddddddd 00101110` (R557). -/
  | sraAtIX (d : Byte)
  /-- SRA (IY+d), `11111101 11001011 dddddddd 00101110` (R558). -/
  | sraAtIY (d : Byte)
  /-- SRL r, `11001011 00111rrr` (R559). -/
  | srlR (r : Reg)
  /-- SRL (HL), `11001011 00111110` (R560). -/
  | srlAtHL
  /-- SRL (IX+d), `11011101 11001011 dddddddd 00111110` (R561). -/
  | srlAtIX (d : Byte)
  /-- SRL (IY+d), `11111101 11001011 dddddddd 00111110` (R562). -/
  | srlAtIY (d : Byte)
  /-- SUB r, `10010rrr` (R563). -/
  | subR (r : Reg)
  /-- SUB n, `11010110 nnnnnnnn` (R564). -/
  | subN (n : Byte)
  /-- SUB (HL), `10010110` (R565). -/
  | subAtHL
  /-- SUB (IX+d), `11011101 10010110 dddddddd` (R566). -/
  | subAtIX (d : Byte)
  /-- SUB (IY+d), `11111101 10010110 dddddddd` (R567). -/
  | subAtIY (d : Byte)
  /-- XOR r, `10101rrr` (R568). -/
  | xorR (r : Reg)
  /-- XOR n, `11101110 nnnnnnnn` (R569). -/
  | xorN (n : Byte)
  /-- XOR (HL), `10101110` (R570). -/
  | xorAtHL
  /-- XOR (IX+d), `11011101 10101110 dddddddd` (R571). -/
  | xorAtIX (d : Byte)
  /-- XOR (IY+d), `11111101 10101110 dddddddd` (R572). -/
  | xorAtIY (d : Byte)
  deriving DecidableEq, Repr

end Sys2Proof
end

