-- ==== Sys2Proof/WellFormed.lean ====
section
/-! DEFINITION. Which instructions the syntax can write are instructions of the machine. Every operand type but one
holds exactly the values its field can hold; the restart address of RST is the exception (30_encoding.md R120). -/

namespace Sys2Proof

/-- The restart addresses: 00H, 08H, ..., 38H, the multiples of 8 below 40H (30_encoding.md R120; 48 R510). -/
def isRestartAddress (p : Byte) : Bool := p &&& 0xC7#8 == 0#8

/-- An instruction is well formed when every operand is a value its field admits (30_encoding.md R116 to R120,
R125). -/
def Instr.wellFormed : Instr → Bool
  | .rst p => isRestartAddress p
  | .adcHLSs _ | .adcAR _ | .adcAN _ | .adcAAtHL | .adcAAtIX _ | .adcAAtIY _ | .addAN _ | .addAR _ | .addAAtHL
  | .addAAtIX _ | .addAAtIY _ | .addHLSs _ | .addIXPp _ | .addIYRr _ | .andR _ | .andN _ | .andAtHL
  | .andAtIX _ | .andAtIY _ | .bitBAtHL _ | .bitBAtIX _ _ | .bitBAtIY _ _ | .bitBR _ _ | .callCcNN _ _
  | .callNN _ | .ccf | .cpR _ | .cpN _ | .cpAtHL | .cpAtIX _ | .cpAtIY _ | .cpd | .cpdr | .cpi | .cpir | .cpl
  | .daa | .decR _ | .decAtHL | .decAtIX _ | .decAtIY _ | .decIX | .decIY | .decSs _ | .di | .djnz _ | .ei
  | .exAtSPHL | .exAtSPIX | .exAtSPIY | .exAFAF | .exDEHL | .exx | .halt | .im0 | .im1 | .im2 | .inAN _
  | .inRC _ | .incAtHL | .incIX | .incAtIX _ | .incIY | .incAtIY _ | .incR _ | .incSs _ | .ind | .indr | .ini
  | .inir | .jpHL | .jpIX | .jpIY | .jpCcNN _ _ | .jpNN _ | .jr _ | .jrC _ | .jrNC _ | .jrNZ _ | .jrZ _
  | .ldAAtBC | .ldAAtDE | .ldAI | .ldAAtNN _ | .ldARefresh | .ldAtBCA | .ldAtDEA | .ldAtHLN _ | .ldDdNN _ _
  | .ldDdAtNN _ _ | .ldHLAtNN _ | .ldAtHLR _ | .ldIA | .ldIXNN _ | .ldIXAtNN _ | .ldAtIXN _ _ | .ldAtIXR _ _
  | .ldIYNN _ | .ldIYAtNN _ | .ldAtIYN _ _ | .ldAtIYR _ _ | .ldAtNNA _ | .ldAtNNDd _ _ | .ldAtNNHL _
  | .ldAtNNIX _ | .ldAtNNIY _ | .ldRefreshA | .ldRAtHL _ | .ldRAtIX _ _ | .ldRAtIY _ _ | .ldRN _ _ | .ldRR _ _
  | .ldSPHL | .ldSPIX | .ldSPIY | .ldd | .lddr | .ldi | .ldir | .neg | .nop | .orR _ | .orN _ | .orAtHL
  | .orAtIX _ | .orAtIY _ | .otdr | .otir | .outCR _ | .outNA _ | .outd | .outi | .popIX | .popIY | .popQq _
  | .pushIX | .pushIY | .pushQq _ | .resBR _ _ | .resBAtHL _ | .resBAtIX _ _ | .resBAtIY _ _ | .ret | .retCc _
  | .reti | .retn | .rlR _ | .rlAtHL | .rlAtIX _ | .rlAtIY _ | .rla | .rlcAtHL | .rlcAtIX _ | .rlcAtIY _
  | .rlcR _ | .rlca | .rld | .rrR _ | .rrAtHL | .rrAtIX _ | .rrAtIY _ | .rra | .rrcR _ | .rrcAtHL | .rrcAtIX _
  | .rrcAtIY _ | .rrca | .rrd | .sbcAR _ | .sbcAN _ | .sbcAAtHL | .sbcAAtIX _ | .sbcAAtIY _ | .sbcHLSs _ | .scf
  | .setBAtHL _ | .setBAtIX _ _ | .setBAtIY _ _ | .setBR _ _ | .slaR _ | .slaAtHL | .slaAtIX _ | .slaAtIY _
  | .sraR _ | .sraAtHL | .sraAtIX _ | .sraAtIY _ | .srlR _ | .srlAtHL | .srlAtIX _ | .srlAtIY _ | .subR _
  | .subN _ | .subAtHL | .subAtIX _ | .subAtIY _ | .xorR _ | .xorN _ | .xorAtHL | .xorAtIX _ | .xorAtIY _ => true

end Sys2Proof
end

