-- ==== Sys2Proof/Decode.lean ====
section
/-! DEFINITION. Decoding (30_encoding.md R110 to R128, R135) and encoding. `decode` is total on any list of bytes:
it reads one instruction from the front and gives back the bytes it did not use, or says by name why there is none.
The operation code is read by the fields the spec names: bits 7 and 6, bits 5 to 3, and bits 2 to 0. -/

namespace Sys2Proof

/-! ## Halves of a word -/

/-- The high byte of a word (00_scope.md R9). -/
def hiByte (w : Word) : Byte := w.extractLsb' 8 8

/-- The low byte of a word (00_scope.md R9). -/
def loByte (w : Word) : Byte := w.extractLsb' 0 8

/-- The word whose high byte is `hi` and whose low byte is `lo`: `hi ++ lo` (00_scope.md R10; 10_state.md R42). -/
def mkWord (hi lo : Byte) : Word := hi ++ lo

/-! ## Field values -/

/-- The code of a register field (30_encoding.md R116). -/
def Reg.code : Reg → BitVec 3
  | .b => 0b000#3 | .c => 0b001#3 | .d => 0b010#3 | .e => 0b011#3 | .h => 0b100#3 | .l => 0b101#3 | .a => 0b111#3

/-- The code of a `dd` or `ss` field (30_encoding.md R117). -/
def Pair.code : Pair → BitVec 2
  | .bc => 0b00#2 | .de => 0b01#2 | .hl => 0b10#2 | .sp => 0b11#2

/-- The code of a `qq` field (30_encoding.md R117). -/
def StackPair.code : StackPair → BitVec 2
  | .bc => 0b00#2 | .de => 0b01#2 | .hl => 0b10#2 | .af => 0b11#2

/-- The code of a `pp` field (30_encoding.md R117). -/
def IXPair.code : IXPair → BitVec 2
  | .bc => 0b00#2 | .de => 0b01#2 | .ix => 0b10#2 | .sp => 0b11#2

/-- The code of an `rr` field (30_encoding.md R117). -/
def IYPair.code : IYPair → BitVec 2
  | .bc => 0b00#2 | .de => 0b01#2 | .iy => 0b10#2 | .sp => 0b11#2

/-- The code of a condition field (30_encoding.md R118). -/
def Cond.code : Cond → BitVec 3
  | .nz => 0b000#3 | .z => 0b001#3 | .nc => 0b010#3 | .c => 0b011#3
  | .po => 0b100#3 | .pe => 0b101#3 | .p => 0b110#3 | .m => 0b111#3

/-- The field `t = p / 8` of RST p (30_encoding.md R120). -/
def restartField (p : Byte) : BitVec 3 := p.extractLsb' 3 3

/-- The register a three-bit field names; 110 names none (30_encoding.md R116). -/
def decodeReg (x : BitVec 3) : Option Reg :=
  match x.toNat with
  | 0 => some .b | 1 => some .c | 2 => some .d | 3 => some .e | 4 => some .h | 5 => some .l | 6 => none | _ => some .a

/-- The pair of a `dd` or `ss` field (30_encoding.md R117). -/
def decodePair (x : BitVec 2) : Pair :=
  match x.toNat with | 0 => .bc | 1 => .de | 2 => .hl | _ => .sp

/-- The pair of a `qq` field (30_encoding.md R117). -/
def decodeStackPair (x : BitVec 2) : StackPair :=
  match x.toNat with | 0 => .bc | 1 => .de | 2 => .hl | _ => .af

/-- The pair of a `pp` field (30_encoding.md R117). -/
def decodeIXPair (x : BitVec 2) : IXPair :=
  match x.toNat with | 0 => .bc | 1 => .de | 2 => .ix | _ => .sp

/-- The pair of an `rr` field (30_encoding.md R117). -/
def decodeIYPair (x : BitVec 2) : IYPair :=
  match x.toNat with | 0 => .bc | 1 => .de | 2 => .iy | _ => .sp

/-- The condition of a `cc` field (30_encoding.md R118). -/
def decodeCond (x : BitVec 3) : Cond :=
  match x.toNat with
  | 0 => .nz | 1 => .z | 2 => .nc | 3 => .c | 4 => .po | 5 => .pe | 6 => .p | _ => .m

/-- The restart address `p = 8 t` of a `t` field (30_encoding.md R120). -/
def restartAddress (t : BitVec 3) : Byte := 0#2 ++ t ++ 0#3

/-! ## Decoding -/

/-- Why a list of bytes holds no instruction. -/
inductive DecodeError where
  /-- The bytes end inside an instruction. -/
  | truncated
  /-- The named bytes begin an encoding that the spec does not define (30_encoding.md R135). -/
  | undefinedEncoding (bytes : List Byte)
  deriving DecidableEq, Repr

/-- The answer of the decoder: an instruction and the bytes behind it, or the reason there is none. -/
abbrev DecodeResult := Except DecodeError (Instr × List Byte)

/-- An operation code with no operand bytes (formats F1, F5, F6, F8 of 30_encoding.md R111). -/
def decode0 (i : Instr) (rest : List Byte) : DecodeResult := .ok (i, rest)

/-- An operation code followed by one operand byte: n, d or a relative displacement (F2, F3, F9). -/
def decode1 (f : Byte → Instr) : List Byte → DecodeResult
  | x :: rest => .ok (f x, rest)
  | [] => .error .truncated

/-- An operation code followed by the displacement d and then the immediate n (F11; 30_encoding.md R113). -/
def decode2 (f : Byte → Byte → Instr) : List Byte → DecodeResult
  | x :: y :: rest => .ok (f x y, rest)
  | _ => .error .truncated

/-- An operation code followed by the two bytes of nn, low byte first (F4, F7, F10; 30_encoding.md R125). -/
def decode16 (f : Word → Instr) : List Byte → DecodeResult
  | lo :: hi :: rest => .ok (f (mkWord hi lo), rest)
  | _ => .error .truncated

/-- Bits 7 and 6 of an operation code. -/
def opX (op : Byte) : BitVec 2 := op.extractLsb' 6 2

/-- Bits 5 to 3 of an operation code: the field r as a destination, cc, b, t or an operation. -/
def opY (op : Byte) : BitVec 3 := op.extractLsb' 3 3

/-- Bits 2 to 0 of an operation code: the field r as a source. -/
def opZ (op : Byte) : BitVec 3 := op.extractLsb' 0 3

/-- Bits 5 and 4 of an operation code: the field dd, ss, qq, pp or rr. -/
def opP (op : Byte) : BitVec 2 := op.extractLsb' 4 2

/-- The eight operations on A with a register operand, `10ooorrr` (30_encoding.md R121). -/
def aluReg (o : BitVec 3) (r : Reg) : Instr :=
  match o.toNat with
  | 0 => .addAR r | 1 => .adcAR r | 2 => .subR r | 3 => .sbcAR r
  | 4 => .andR r | 5 => .xorR r | 6 => .orR r | _ => .cpR r

/-- The eight operations on A with the operand (HL), `10ooo110` (30_encoding.md R121). -/
def aluAtHL (o : BitVec 3) : Instr :=
  match o.toNat with
  | 0 => .addAAtHL | 1 => .adcAAtHL | 2 => .subAtHL | 3 => .sbcAAtHL
  | 4 => .andAtHL | 5 => .xorAtHL | 6 => .orAtHL | _ => .cpAtHL

/-- The eight operations on A with an immediate, `11ooo110` (30_encoding.md R121). -/
def aluImm (o : BitVec 3) (n : Byte) : Instr :=
  match o.toNat with
  | 0 => .addAN n | 1 => .adcAN n | 2 => .subN n | 3 => .sbcAN n
  | 4 => .andN n | 5 => .xorN n | 6 => .orN n | _ => .cpN n

/-- The eight operations on A with the operand (IX+d) (30_encoding.md R121). -/
def aluAtIX (o : BitVec 3) (d : Byte) : Instr :=
  match o.toNat with
  | 0 => .addAAtIX d | 1 => .adcAAtIX d | 2 => .subAtIX d | 3 => .sbcAAtIX d
  | 4 => .andAtIX d | 5 => .xorAtIX d | 6 => .orAtIX d | _ => .cpAtIX d

/-- The eight operations on A with the operand (IY+d) (30_encoding.md R121). -/
def aluAtIY (o : BitVec 3) (d : Byte) : Instr :=
  match o.toNat with
  | 0 => .addAAtIY d | 1 => .adcAAtIY d | 2 => .subAtIY d | 3 => .sbcAAtIY d
  | 4 => .andAtIY d | 5 => .xorAtIY d | 6 => .orAtIY d | _ => .cpAtIY d

/-- Operation codes 00H to 3FH (30_encoding.md R116 to R118, R127). -/
def decodeMain0 (op : Byte) (rest : List Byte) : DecodeResult :=
  match (opZ op).toNat, (opY op).toNat with
  | 0, 0 => decode0 .nop rest
  | 0, 1 => decode0 .exAFAF rest
  | 0, 2 => decode1 .djnz rest
  | 0, 3 => decode1 .jr rest
  | 0, 4 => decode1 .jrNZ rest
  | 0, 5 => decode1 .jrZ rest
  | 0, 6 => decode1 .jrNC rest
  | 0, _ => decode1 .jrC rest
  | 1, y => if y % 2 = 0 then decode16 (.ldDdNN (decodePair (opP op))) rest
            else decode0 (.addHLSs (decodePair (opP op))) rest
  | 2, 0 => decode0 .ldAtBCA rest
  | 2, 1 => decode0 .ldAAtBC rest
  | 2, 2 => decode0 .ldAtDEA rest
  | 2, 3 => decode0 .ldAAtDE rest
  | 2, 4 => decode16 .ldAtNNHL rest
  | 2, 5 => decode16 .ldHLAtNN rest
  | 2, 6 => decode16 .ldAtNNA rest
  | 2, _ => decode16 .ldAAtNN rest
  | 3, y => if y % 2 = 0 then decode0 (.incSs (decodePair (opP op))) rest
            else decode0 (.decSs (decodePair (opP op))) rest
  | 4, _ => match decodeReg (opY op) with
            | some r => decode0 (.incR r) rest
            | none => decode0 .incAtHL rest
  | 5, _ => match decodeReg (opY op) with
            | some r => decode0 (.decR r) rest
            | none => decode0 .decAtHL rest
  | 6, _ => match decodeReg (opY op) with
            | some r => decode1 (.ldRN r) rest
            | none => decode1 .ldAtHLN rest
  | _, 0 => decode0 .rlca rest
  | _, 1 => decode0 .rrca rest
  | _, 2 => decode0 .rla rest
  | _, 3 => decode0 .rra rest
  | _, 4 => decode0 .daa rest
  | _, 5 => decode0 .cpl rest
  | _, 6 => decode0 .scf rest
  | _, _ => decode0 .ccf rest

/-- Operation codes 40H to 7FH: `01 rrr r'r'r'`, with 110 standing for (HL); both 110 is HALT
(30_encoding.md R116). -/
def decodeMain1 (op : Byte) (rest : List Byte) : DecodeResult :=
  match decodeReg (opY op), decodeReg (opZ op) with
  | some r, some r' => decode0 (.ldRR r r') rest
  | some r, none => decode0 (.ldRAtHL r) rest
  | none, some r' => decode0 (.ldAtHLR r') rest
  | none, none => decode0 .halt rest

/-- Operation codes 80H to BFH (30_encoding.md R121). -/
def decodeMain2 (op : Byte) (rest : List Byte) : DecodeResult :=
  match decodeReg (opZ op) with
  | some r => decode0 (aluReg (opY op) r) rest
  | none => decode0 (aluAtHL (opY op)) rest

/-- Operation codes C0H to FFH other than the prefixes (30_encoding.md R117, R118, R120, R121, R127). -/
def decodeMain3 (op : Byte) (rest : List Byte) : DecodeResult :=
  match (opZ op).toNat, (opY op).toNat with
  | 0, _ => decode0 (.retCc (decodeCond (opY op))) rest
  | 1, 1 => decode0 .ret rest
  | 1, 3 => decode0 .exx rest
  | 1, 5 => decode0 .jpHL rest
  | 1, 7 => decode0 .ldSPHL rest
  | 1, _ => decode0 (.popQq (decodeStackPair (opP op))) rest
  | 2, _ => decode16 (.jpCcNN (decodeCond (opY op))) rest
  | 3, 0 => decode16 .jpNN rest
  | 3, 2 => decode1 .outNA rest
  | 3, 3 => decode1 .inAN rest
  | 3, 4 => decode0 .exAtSPHL rest
  | 3, 5 => decode0 .exDEHL rest
  | 3, 6 => decode0 .di rest
  | 3, 7 => decode0 .ei rest
  | 4, _ => decode16 (.callCcNN (decodeCond (opY op))) rest
  | 5, 1 => decode16 .callNN rest
  | 5, 0 => decode0 (.pushQq (decodeStackPair (opP op))) rest
  | 5, 2 => decode0 (.pushQq (decodeStackPair (opP op))) rest
  | 5, 4 => decode0 (.pushQq (decodeStackPair (opP op))) rest
  | 5, 6 => decode0 (.pushQq (decodeStackPair (opP op))) rest
  | 6, _ => decode1 (aluImm (opY op)) rest
  | 7, _ => decode0 (.rst (restartAddress (opY op))) rest
  | _, _ => .error (.undefinedEncoding [op])

/-- The unprefixed operation codes (30_encoding.md R127). -/
def decodeMain (op : Byte) (rest : List Byte) : DecodeResult :=
  match (opX op).toNat with
  | 0 => decodeMain0 op rest
  | 1 => decodeMain1 op rest
  | 2 => decodeMain2 op rest
  | _ => decodeMain3 op rest

/-- The CB table on a register (30_encoding.md R122); 00110 is not defined (R135). -/
def cbReg (op : Byte) (r : Reg) : Option Instr :=
  match (opX op).toNat, (opY op).toNat with
  | 0, 0 => some (.rlcR r)
  | 0, 1 => some (.rrcR r)
  | 0, 2 => some (.rlR r)
  | 0, 3 => some (.rrR r)
  | 0, 4 => some (.slaR r)
  | 0, 5 => some (.sraR r)
  | 0, 6 => none
  | 0, _ => some (.srlR r)
  | 1, _ => some (.bitBR (opY op) r)
  | 2, _ => some (.resBR (opY op) r)
  | _, _ => some (.setBR (opY op) r)

/-- The CB table on (HL) (30_encoding.md R122). -/
def cbAtHL (op : Byte) : Option Instr :=
  match (opX op).toNat, (opY op).toNat with
  | 0, 0 => some .rlcAtHL
  | 0, 1 => some .rrcAtHL
  | 0, 2 => some .rlAtHL
  | 0, 3 => some .rrAtHL
  | 0, 4 => some .slaAtHL
  | 0, 5 => some .sraAtHL
  | 0, 6 => none
  | 0, _ => some .srlAtHL
  | 1, _ => some (.bitBAtHL (opY op))
  | 2, _ => some (.resBAtHL (opY op))
  | _, _ => some (.setBAtHL (opY op))

/-- The CB table on (IX+d), format F12 (30_encoding.md R114, R122). -/
def cbAtIX (op : Byte) (d : Byte) : Option Instr :=
  match (opX op).toNat, (opY op).toNat with
  | 0, 0 => some (.rlcAtIX d)
  | 0, 1 => some (.rrcAtIX d)
  | 0, 2 => some (.rlAtIX d)
  | 0, 3 => some (.rrAtIX d)
  | 0, 4 => some (.slaAtIX d)
  | 0, 5 => some (.sraAtIX d)
  | 0, 6 => none
  | 0, _ => some (.srlAtIX d)
  | 1, _ => some (.bitBAtIX (opY op) d)
  | 2, _ => some (.resBAtIX (opY op) d)
  | _, _ => some (.setBAtIX (opY op) d)

/-- The CB table on (IY+d), format F12 (30_encoding.md R114, R122). -/
def cbAtIY (op : Byte) (d : Byte) : Option Instr :=
  match (opX op).toNat, (opY op).toNat with
  | 0, 0 => some (.rlcAtIY d)
  | 0, 1 => some (.rrcAtIY d)
  | 0, 2 => some (.rlAtIY d)
  | 0, 3 => some (.rrAtIY d)
  | 0, 4 => some (.slaAtIY d)
  | 0, 5 => some (.sraAtIY d)
  | 0, 6 => none
  | 0, _ => some (.srlAtIY d)
  | 1, _ => some (.bitBAtIY (opY op) d)
  | 2, _ => some (.resBAtIY (opY op) d)
  | _, _ => some (.setBAtIY (opY op) d)

/-- The second byte after CB (30_encoding.md R122, R126). -/
def decodeCB : List Byte → DecodeResult
  | [] => .error .truncated
  | op :: rest =>
    match (match decodeReg (opZ op) with | some r => cbReg op r | none => cbAtHL op) with
    | some i => decode0 i rest
    | none => .error (.undefinedEncoding [0xCB#8, op])

/-- The block-instruction grid `101 R D 0 x x` of the ED table (30_encoding.md R123): `y` holds bits 5 to 3
(1 R D), `z` bits 2 to 0. -/
def edBlock (y z : Nat) : Option Instr :=
  match y, z with
  | 4, 0 => some .ldi  | 4, 1 => some .cpi  | 4, 2 => some .ini  | 4, 3 => some .outi
  | 5, 0 => some .ldd  | 5, 1 => some .cpd  | 5, 2 => some .ind  | 5, 3 => some .outd
  | 6, 0 => some .ldir | 6, 1 => some .cpir | 6, 2 => some .inir | 6, 3 => some .otir
  | 7, 0 => some .lddr | 7, 1 => some .cpdr | 7, 2 => some .indr | 7, 3 => some .otdr
  | _, _ => none

/-- The single operation codes of the ED table with bits 7 and 6 equal to 01 (30_encoding.md R124). -/
def edSingle (y z : Nat) : Option Instr :=
  match z, y with
  | 4, 0 => some .neg
  | 5, 0 => some .retn
  | 5, 1 => some .reti
  | 6, 0 => some .im0
  | 6, 2 => some .im1
  | 6, 3 => some .im2
  | 7, 0 => some .ldIA
  | 7, 1 => some .ldRefreshA
  | 7, 2 => some .ldAI
  | 7, 3 => some .ldARefresh
  | 7, 4 => some .rrd
  | 7, 5 => some .rld
  | _, _ => none

/-- The answer for an ED operation code that a table may or may not define. -/
def edDefined (op : Byte) (i : Option Instr) (rest : List Byte) : DecodeResult :=
  match i with
  | some i => decode0 i rest
  | none => .error (.undefinedEncoding [0xED#8, op])

/-- The second byte after ED (30_encoding.md R123, R124, R126). -/
def decodeED : List Byte → DecodeResult
  | [] => .error .truncated
  | op :: rest =>
    match (opX op).toNat, (opZ op).toNat with
    | 1, 0 => edDefined op ((decodeReg (opY op)).map .inRC) rest
    | 1, 1 => edDefined op ((decodeReg (opY op)).map .outCR) rest
    | 1, 2 => if (opY op).toNat % 2 = 0 then decode0 (.sbcHLSs (decodePair (opP op))) rest
              else decode0 (.adcHLSs (decodePair (opP op))) rest
    | 1, 3 => if (opY op).toNat % 2 = 0 then decode16 (fun nn => .ldAtNNDd nn (decodePair (opP op))) rest
              else decode16 (.ldDdAtNN (decodePair (opP op))) rest
    | 1, z => edDefined op (edSingle (opY op).toNat z) rest
    | 2, z => edDefined op (edBlock (opY op).toNat z) rest
    | _, _ => .error (.undefinedEncoding [0xED#8, op])

/-- What follows CB in the formats DD CB d op and FD CB d op: the displacement comes before the operation code,
whose register field must be 110 (30_encoding.md R114, R126, R135). -/
def decodeIndexCB (pre : Byte) (table : Byte → Byte → Option Instr) : List Byte → DecodeResult
  | d :: op :: rest =>
    match (match decodeReg (opZ op) with | some _ => none | none => table op d) with
    | some i => decode0 i rest
    | none => .error (.undefinedEncoding [pre, 0xCB#8, d, op])
  | _ => .error .truncated

/-- The second byte after DD (30_encoding.md R113, R126, R128). -/
def decodeDD : List Byte → DecodeResult
  | [] => .error .truncated
  | op :: rest =>
    match op.toNat with
    | 0x09 => decode0 (.addIXPp (decodeIXPair (opP op))) rest
    | 0x19 => decode0 (.addIXPp (decodeIXPair (opP op))) rest
    | 0x29 => decode0 (.addIXPp (decodeIXPair (opP op))) rest
    | 0x39 => decode0 (.addIXPp (decodeIXPair (opP op))) rest
    | 0x21 => decode16 .ldIXNN rest
    | 0x22 => decode16 .ldAtNNIX rest
    | 0x23 => decode0 .incIX rest
    | 0x2A => decode16 .ldIXAtNN rest
    | 0x2B => decode0 .decIX rest
    | 0x34 => decode1 .incAtIX rest
    | 0x35 => decode1 .decAtIX rest
    | 0x36 => decode2 .ldAtIXN rest
    | 0xCB => decodeIndexCB 0xDD#8 cbAtIX rest
    | 0xE1 => decode0 .popIX rest
    | 0xE3 => decode0 .exAtSPIX rest
    | 0xE5 => decode0 .pushIX rest
    | 0xE9 => decode0 .jpIX rest
    | 0xF9 => decode0 .ldSPIX rest
    | _ =>
      match (opX op).toNat, decodeReg (opY op), decodeReg (opZ op) with
      | 1, some r, none => decode1 (.ldRAtIX r) rest
      | 1, none, some r => decode1 (fun d => .ldAtIXR d r) rest
      | 2, _, none => decode1 (aluAtIX (opY op)) rest
      | _, _, _ => .error (.undefinedEncoding [0xDD#8, op])

/-- The second byte after FD (30_encoding.md R113, R126, R128). -/
def decodeFD : List Byte → DecodeResult
  | [] => .error .truncated
  | op :: rest =>
    match op.toNat with
    | 0x09 => decode0 (.addIYRr (decodeIYPair (opP op))) rest
    | 0x19 => decode0 (.addIYRr (decodeIYPair (opP op))) rest
    | 0x29 => decode0 (.addIYRr (decodeIYPair (opP op))) rest
    | 0x39 => decode0 (.addIYRr (decodeIYPair (opP op))) rest
    | 0x21 => decode16 .ldIYNN rest
    | 0x22 => decode16 .ldAtNNIY rest
    | 0x23 => decode0 .incIY rest
    | 0x2A => decode16 .ldIYAtNN rest
    | 0x2B => decode0 .decIY rest
    | 0x34 => decode1 .incAtIY rest
    | 0x35 => decode1 .decAtIY rest
    | 0x36 => decode2 .ldAtIYN rest
    | 0xCB => decodeIndexCB 0xFD#8 cbAtIY rest
    | 0xE1 => decode0 .popIY rest
    | 0xE3 => decode0 .exAtSPIY rest
    | 0xE5 => decode0 .pushIY rest
    | 0xE9 => decode0 .jpIY rest
    | 0xF9 => decode0 .ldSPIY rest
    | _ =>
      match (opX op).toNat, decodeReg (opY op), decodeReg (opZ op) with
      | 1, some r, none => decode1 (.ldRAtIY r) rest
      | 1, none, some r => decode1 (fun d => .ldAtIYR d r) rest
      | 2, _, none => decode1 (aluAtIY (opY op)) rest
      | _, _, _ => .error (.undefinedEncoding [0xFD#8, op])

/-- Decode the instruction at the front of a list of bytes: the four prefix bytes select the other tables
(30_encoding.md R112, R126). -/
def decode : List Byte → DecodeResult
  | [] => .error .truncated
  | b0 :: rest =>
    match b0.toNat with
    | 0xCB => decodeCB rest
    | 0xED => decodeED rest
    | 0xDD => decodeDD rest
    | 0xFD => decodeFD rest
    | _ => decodeMain b0 rest

/-! ## Encoding -/

/-- The bytes of an instruction in fetch order, from its row of opcode_table.json (30_encoding.md R110, R111). -/
def encode : Instr → List Byte
  | .adcHLSs ss => [0xED#8, 0b01#2 ++ ss.code ++ 0b1010#4]
  | .adcAR r => [0b10001#5 ++ r.code]
  | .adcAN n => [0xCE#8, n]
  | .adcAAtHL => [0x8E#8]
  | .adcAAtIX d => [0xDD#8, 0x8E#8, d]
  | .adcAAtIY d => [0xFD#8, 0x8E#8, d]
  | .addAN n => [0xC6#8, n]
  | .addAR r => [0b10000#5 ++ r.code]
  | .addAAtHL => [0x86#8]
  | .addAAtIX d => [0xDD#8, 0x86#8, d]
  | .addAAtIY d => [0xFD#8, 0x86#8, d]
  | .addHLSs ss => [0b00#2 ++ ss.code ++ 0b1001#4]
  | .addIXPp pp => [0xDD#8, 0b00#2 ++ pp.code ++ 0b1001#4]
  | .addIYRr rr => [0xFD#8, 0b00#2 ++ rr.code ++ 0b1001#4]
  | .andR r => [0b10100#5 ++ r.code]
  | .andN n => [0xE6#8, n]
  | .andAtHL => [0xA6#8]
  | .andAtIX d => [0xDD#8, 0xA6#8, d]
  | .andAtIY d => [0xFD#8, 0xA6#8, d]
  | .bitBAtHL b => [0xCB#8, 0b01#2 ++ b ++ 0b110#3]
  | .bitBAtIX b d => [0xDD#8, 0xCB#8, d, 0b01#2 ++ b ++ 0b110#3]
  | .bitBAtIY b d => [0xFD#8, 0xCB#8, d, 0b01#2 ++ b ++ 0b110#3]
  | .bitBR b r => [0xCB#8, 0b01#2 ++ b ++ r.code]
  | .callCcNN cc nn => [0b11#2 ++ cc.code ++ 0b100#3, loByte nn, hiByte nn]
  | .callNN nn => [0xCD#8, loByte nn, hiByte nn]
  | .ccf => [0x3F#8]
  | .cpR r => [0b10111#5 ++ r.code]
  | .cpN n => [0xFE#8, n]
  | .cpAtHL => [0xBE#8]
  | .cpAtIX d => [0xDD#8, 0xBE#8, d]
  | .cpAtIY d => [0xFD#8, 0xBE#8, d]
  | .cpd => [0xED#8, 0xA9#8]
  | .cpdr => [0xED#8, 0xB9#8]
  | .cpi => [0xED#8, 0xA1#8]
  | .cpir => [0xED#8, 0xB1#8]
  | .cpl => [0x2F#8]
  | .daa => [0x27#8]
  | .decR r => [0b00#2 ++ r.code ++ 0b101#3]
  | .decAtHL => [0x35#8]
  | .decAtIX d => [0xDD#8, 0x35#8, d]
  | .decAtIY d => [0xFD#8, 0x35#8, d]
  | .decIX => [0xDD#8, 0x2B#8]
  | .decIY => [0xFD#8, 0x2B#8]
  | .decSs ss => [0b00#2 ++ ss.code ++ 0b1011#4]
  | .di => [0xF3#8]
  | .djnz disp => [0x10#8, disp]
  | .ei => [0xFB#8]
  | .exAtSPHL => [0xE3#8]
  | .exAtSPIX => [0xDD#8, 0xE3#8]
  | .exAtSPIY => [0xFD#8, 0xE3#8]
  | .exAFAF => [0x08#8]
  | .exDEHL => [0xEB#8]
  | .exx => [0xD9#8]
  | .halt => [0x76#8]
  | .im0 => [0xED#8, 0x46#8]
  | .im1 => [0xED#8, 0x56#8]
  | .im2 => [0xED#8, 0x5E#8]
  | .inAN n => [0xDB#8, n]
  | .inRC r => [0xED#8, 0b01#2 ++ r.code ++ 0b000#3]
  | .incAtHL => [0x34#8]
  | .incIX => [0xDD#8, 0x23#8]
  | .incAtIX d => [0xDD#8, 0x34#8, d]
  | .incIY => [0xFD#8, 0x23#8]
  | .incAtIY d => [0xFD#8, 0x34#8, d]
  | .incR r => [0b00#2 ++ r.code ++ 0b100#3]
  | .incSs ss => [0b00#2 ++ ss.code ++ 0b0011#4]
  | .ind => [0xED#8, 0xAA#8]
  | .indr => [0xED#8, 0xBA#8]
  | .ini => [0xED#8, 0xA2#8]
  | .inir => [0xED#8, 0xB2#8]
  | .jpHL => [0xE9#8]
  | .jpIX => [0xDD#8, 0xE9#8]
  | .jpIY => [0xFD#8, 0xE9#8]
  | .jpCcNN cc nn => [0b11#2 ++ cc.code ++ 0b010#3, loByte nn, hiByte nn]
  | .jpNN nn => [0xC3#8, loByte nn, hiByte nn]
  | .jr disp => [0x18#8, disp]
  | .jrC disp => [0x38#8, disp]
  | .jrNC disp => [0x30#8, disp]
  | .jrNZ disp => [0x20#8, disp]
  | .jrZ disp => [0x28#8, disp]
  | .ldAAtBC => [0x0A#8]
  | .ldAAtDE => [0x1A#8]
  | .ldAI => [0xED#8, 0x57#8]
  | .ldAAtNN nn => [0x3A#8, loByte nn, hiByte nn]
  | .ldARefresh => [0xED#8, 0x5F#8]
  | .ldAtBCA => [0x02#8]
  | .ldAtDEA => [0x12#8]
  | .ldAtHLN n => [0x36#8, n]
  | .ldDdNN dd nn => [0b00#2 ++ dd.code ++ 0b0001#4, loByte nn, hiByte nn]
  | .ldDdAtNN dd nn => [0xED#8, 0b01#2 ++ dd.code ++ 0b1011#4, loByte nn, hiByte nn]
  | .ldHLAtNN nn => [0x2A#8, loByte nn, hiByte nn]
  | .ldAtHLR r => [0b01110#5 ++ r.code]
  | .ldIA => [0xED#8, 0x47#8]
  | .ldIXNN nn => [0xDD#8, 0x21#8, loByte nn, hiByte nn]
  | .ldIXAtNN nn => [0xDD#8, 0x2A#8, loByte nn, hiByte nn]
  | .ldAtIXN d n => [0xDD#8, 0x36#8, d, n]
  | .ldAtIXR d r => [0xDD#8, 0b01110#5 ++ r.code, d]
  | .ldIYNN nn => [0xFD#8, 0x21#8, loByte nn, hiByte nn]
  | .ldIYAtNN nn => [0xFD#8, 0x2A#8, loByte nn, hiByte nn]
  | .ldAtIYN d n => [0xFD#8, 0x36#8, d, n]
  | .ldAtIYR d r => [0xFD#8, 0b01110#5 ++ r.code, d]
  | .ldAtNNA nn => [0x32#8, loByte nn, hiByte nn]
  | .ldAtNNDd nn dd => [0xED#8, 0b01#2 ++ dd.code ++ 0b0011#4, loByte nn, hiByte nn]
  | .ldAtNNHL nn => [0x22#8, loByte nn, hiByte nn]
  | .ldAtNNIX nn => [0xDD#8, 0x22#8, loByte nn, hiByte nn]
  | .ldAtNNIY nn => [0xFD#8, 0x22#8, loByte nn, hiByte nn]
  | .ldRefreshA => [0xED#8, 0x4F#8]
  | .ldRAtHL r => [0b01#2 ++ r.code ++ 0b110#3]
  | .ldRAtIX r d => [0xDD#8, 0b01#2 ++ r.code ++ 0b110#3, d]
  | .ldRAtIY r d => [0xFD#8, 0b01#2 ++ r.code ++ 0b110#3, d]
  | .ldRN r n => [0b00#2 ++ r.code ++ 0b110#3, n]
  | .ldRR r r' => [0b01#2 ++ r.code ++ r'.code]
  | .ldSPHL => [0xF9#8]
  | .ldSPIX => [0xDD#8, 0xF9#8]
  | .ldSPIY => [0xFD#8, 0xF9#8]
  | .ldd => [0xED#8, 0xA8#8]
  | .lddr => [0xED#8, 0xB8#8]
  | .ldi => [0xED#8, 0xA0#8]
  | .ldir => [0xED#8, 0xB0#8]
  | .neg => [0xED#8, 0x44#8]
  | .nop => [0x00#8]
  | .orR r => [0b10110#5 ++ r.code]
  | .orN n => [0xF6#8, n]
  | .orAtHL => [0xB6#8]
  | .orAtIX d => [0xDD#8, 0xB6#8, d]
  | .orAtIY d => [0xFD#8, 0xB6#8, d]
  | .otdr => [0xED#8, 0xBB#8]
  | .otir => [0xED#8, 0xB3#8]
  | .outCR r => [0xED#8, 0b01#2 ++ r.code ++ 0b001#3]
  | .outNA n => [0xD3#8, n]
  | .outd => [0xED#8, 0xAB#8]
  | .outi => [0xED#8, 0xA3#8]
  | .popIX => [0xDD#8, 0xE1#8]
  | .popIY => [0xFD#8, 0xE1#8]
  | .popQq qq => [0b11#2 ++ qq.code ++ 0b0001#4]
  | .pushIX => [0xDD#8, 0xE5#8]
  | .pushIY => [0xFD#8, 0xE5#8]
  | .pushQq qq => [0b11#2 ++ qq.code ++ 0b0101#4]
  | .resBR b r => [0xCB#8, 0b10#2 ++ b ++ r.code]
  | .resBAtHL b => [0xCB#8, 0b10#2 ++ b ++ 0b110#3]
  | .resBAtIX b d => [0xDD#8, 0xCB#8, d, 0b10#2 ++ b ++ 0b110#3]
  | .resBAtIY b d => [0xFD#8, 0xCB#8, d, 0b10#2 ++ b ++ 0b110#3]
  | .ret => [0xC9#8]
  | .retCc cc => [0b11#2 ++ cc.code ++ 0b000#3]
  | .reti => [0xED#8, 0x4D#8]
  | .retn => [0xED#8, 0x45#8]
  | .rlR r => [0xCB#8, 0b00010#5 ++ r.code]
  | .rlAtHL => [0xCB#8, 0x16#8]
  | .rlAtIX d => [0xDD#8, 0xCB#8, d, 0x16#8]
  | .rlAtIY d => [0xFD#8, 0xCB#8, d, 0x16#8]
  | .rla => [0x17#8]
  | .rlcAtHL => [0xCB#8, 0x06#8]
  | .rlcAtIX d => [0xDD#8, 0xCB#8, d, 0x06#8]
  | .rlcAtIY d => [0xFD#8, 0xCB#8, d, 0x06#8]
  | .rlcR r => [0xCB#8, 0b00000#5 ++ r.code]
  | .rlca => [0x07#8]
  | .rld => [0xED#8, 0x6F#8]
  | .rrR r => [0xCB#8, 0b00011#5 ++ r.code]
  | .rrAtHL => [0xCB#8, 0x1E#8]
  | .rrAtIX d => [0xDD#8, 0xCB#8, d, 0x1E#8]
  | .rrAtIY d => [0xFD#8, 0xCB#8, d, 0x1E#8]
  | .rra => [0x1F#8]
  | .rrcR r => [0xCB#8, 0b00001#5 ++ r.code]
  | .rrcAtHL => [0xCB#8, 0x0E#8]
  | .rrcAtIX d => [0xDD#8, 0xCB#8, d, 0x0E#8]
  | .rrcAtIY d => [0xFD#8, 0xCB#8, d, 0x0E#8]
  | .rrca => [0x0F#8]
  | .rrd => [0xED#8, 0x67#8]
  | .rst p => [0b11#2 ++ restartField p ++ 0b111#3]
  | .sbcAR r => [0b10011#5 ++ r.code]
  | .sbcAN n => [0xDE#8, n]
  | .sbcAAtHL => [0x9E#8]
  | .sbcAAtIX d => [0xDD#8, 0x9E#8, d]
  | .sbcAAtIY d => [0xFD#8, 0x9E#8, d]
  | .sbcHLSs ss => [0xED#8, 0b01#2 ++ ss.code ++ 0b0010#4]
  | .scf => [0x37#8]
  | .setBAtHL b => [0xCB#8, 0b11#2 ++ b ++ 0b110#3]
  | .setBAtIX b d => [0xDD#8, 0xCB#8, d, 0b11#2 ++ b ++ 0b110#3]
  | .setBAtIY b d => [0xFD#8, 0xCB#8, d, 0b11#2 ++ b ++ 0b110#3]
  | .setBR b r => [0xCB#8, 0b11#2 ++ b ++ r.code]
  | .slaR r => [0xCB#8, 0b00100#5 ++ r.code]
  | .slaAtHL => [0xCB#8, 0x26#8]
  | .slaAtIX d => [0xDD#8, 0xCB#8, d, 0x26#8]
  | .slaAtIY d => [0xFD#8, 0xCB#8, d, 0x26#8]
  | .sraR r => [0xCB#8, 0b00101#5 ++ r.code]
  | .sraAtHL => [0xCB#8, 0x2E#8]
  | .sraAtIX d => [0xDD#8, 0xCB#8, d, 0x2E#8]
  | .sraAtIY d => [0xFD#8, 0xCB#8, d, 0x2E#8]
  | .srlR r => [0xCB#8, 0b00111#5 ++ r.code]
  | .srlAtHL => [0xCB#8, 0x3E#8]
  | .srlAtIX d => [0xDD#8, 0xCB#8, d, 0x3E#8]
  | .srlAtIY d => [0xFD#8, 0xCB#8, d, 0x3E#8]
  | .subR r => [0b10010#5 ++ r.code]
  | .subN n => [0xD6#8, n]
  | .subAtHL => [0x96#8]
  | .subAtIX d => [0xDD#8, 0x96#8, d]
  | .subAtIY d => [0xFD#8, 0x96#8, d]
  | .xorR r => [0b10101#5 ++ r.code]
  | .xorN n => [0xEE#8, n]
  | .xorAtHL => [0xAE#8]
  | .xorAtIX d => [0xDD#8, 0xAE#8, d]
  | .xorAtIY d => [0xFD#8, 0xAE#8, d]

/-- The number of bytes of an instruction (30_encoding.md R110, R126; `length` of opcode_table.json). -/
def Instr.length : Instr → Nat
  | .adcAR _ | .adcAAtHL | .addAR _ | .addAAtHL | .addHLSs _ | .andR _ | .andAtHL | .ccf | .cpR _ | .cpAtHL
  | .cpl | .daa | .decR _ | .decAtHL | .decSs _ | .di | .ei | .exAtSPHL | .exAFAF | .exDEHL | .exx | .halt
  | .incAtHL | .incR _ | .incSs _ | .jpHL | .ldAAtBC | .ldAAtDE | .ldAtBCA | .ldAtDEA | .ldAtHLR _ | .ldRAtHL _
  | .ldRR _ _ | .ldSPHL | .nop | .orR _ | .orAtHL | .popQq _ | .pushQq _ | .ret | .retCc _ | .rla | .rlca
  | .rra | .rrca | .rst _ | .sbcAR _ | .sbcAAtHL | .scf | .subR _ | .subAtHL | .xorR _ | .xorAtHL => 1
  | .adcHLSs _ | .adcAN _ | .addAN _ | .addIXPp _ | .addIYRr _ | .andN _ | .bitBAtHL _ | .bitBR _ _ | .cpN _
  | .cpd | .cpdr | .cpi | .cpir | .decIX | .decIY | .djnz _ | .exAtSPIX | .exAtSPIY | .im0 | .im1 | .im2
  | .inAN _ | .inRC _ | .incIX | .incIY | .ind | .indr | .ini | .inir | .jpIX | .jpIY | .jr _ | .jrC _
  | .jrNC _ | .jrNZ _ | .jrZ _ | .ldAI | .ldARefresh | .ldAtHLN _ | .ldIA | .ldRefreshA | .ldRN _ _ | .ldSPIX
  | .ldSPIY | .ldd | .lddr | .ldi | .ldir | .neg | .orN _ | .otdr | .otir | .outCR _ | .outNA _ | .outd | .outi
  | .popIX | .popIY | .pushIX | .pushIY | .resBR _ _ | .resBAtHL _ | .reti | .retn | .rlR _ | .rlAtHL
  | .rlcAtHL | .rlcR _ | .rld | .rrR _ | .rrAtHL | .rrcR _ | .rrcAtHL | .rrd | .sbcAN _ | .sbcHLSs _
  | .setBAtHL _ | .setBR _ _ | .slaR _ | .slaAtHL | .sraR _ | .sraAtHL | .srlR _ | .srlAtHL | .subN _ | .xorN _ => 2
  | .adcAAtIX _ | .adcAAtIY _ | .addAAtIX _ | .addAAtIY _ | .andAtIX _ | .andAtIY _ | .callCcNN _ _ | .callNN _
  | .cpAtIX _ | .cpAtIY _ | .decAtIX _ | .decAtIY _ | .incAtIX _ | .incAtIY _ | .jpCcNN _ _ | .jpNN _
  | .ldAAtNN _ | .ldDdNN _ _ | .ldHLAtNN _ | .ldAtIXR _ _ | .ldAtIYR _ _ | .ldAtNNA _ | .ldAtNNHL _
  | .ldRAtIX _ _ | .ldRAtIY _ _ | .orAtIX _ | .orAtIY _ | .sbcAAtIX _ | .sbcAAtIY _ | .subAtIX _ | .subAtIY _
  | .xorAtIX _ | .xorAtIY _ => 3
  | .bitBAtIX _ _ | .bitBAtIY _ _ | .ldDdAtNN _ _ | .ldIXNN _ | .ldIXAtNN _ | .ldAtIXN _ _ | .ldIYNN _
  | .ldIYAtNN _ | .ldAtIYN _ _ | .ldAtNNDd _ _ | .ldAtNNIX _ | .ldAtNNIY _ | .resBAtIX _ _ | .resBAtIY _ _
  | .rlAtIX _ | .rlAtIY _ | .rlcAtIX _ | .rlcAtIY _ | .rrAtIX _ | .rrAtIY _ | .rrcAtIX _ | .rrcAtIY _
  | .setBAtIX _ _ | .setBAtIY _ _ | .slaAtIX _ | .slaAtIY _ | .sraAtIX _ | .sraAtIY _ | .srlAtIX _ | .srlAtIY _ => 4

/-! ## The numbering of opcode_table.json -/

/-- The `k` bytes of the number `w`, the most significant first: opcode_table.json writes an instruction's bytes as
one number with the first byte leftmost (30_encoding.md, "How to read opcode_table.json"). DEDUCED, log entry 14. -/
def tableBytes : Nat → Nat → List Byte
  | 0, _ => []
  | k + 1, w => BitVec.ofNat 8 (w / 256 ^ k) :: tableBytes k w

/-- The bytes of an instruction given as the table numbers it, with zero bytes behind it up to the length of the
longest instruction. -/
def tableWordBytes (nbits w : Nat) : List Byte :=
  (tableBytes (nbits / 8) w ++ [0#8, 0#8, 0#8, 0#8]).take 4

/-- The instruction the decoder reads from an instruction whose bits are `w`, numbered as opcode_table.json numbers
them; none where the decoder refuses. -/
def decodeTableWord (nbits w : Nat) : Option Instr :=
  match decode (tableWordBytes nbits w) with
  | .ok (i, _) => some i
  | .error _ => none

end Sys2Proof
end

