-- ==== Sys2Proof/Machine/Flags.lean ====
section
/-! DEFINITION. The flag register and every result and flag computation of the machine: the primitives of 00_scope.md
R12 to R19, R23 and the DAA table (42 R270). All are pure functions of their arguments. -/

namespace Sys2Proof.Machine

/-! ## The flag register -/

/-- The flag register F: the six flags the spec names and the two bits it does not (10_state.md R49, R50, R51). -/
structure Flags where
  /-- Sign, bit 7. -/
  s : Bool
  /-- Zero, bit 6. -/
  z : Bool
  /-- The unnamed bit 5. -/
  b5 : Bool
  /-- Half carry, bit 4. -/
  h : Bool
  /-- The unnamed bit 3. -/
  b3 : Bool
  /-- Parity or overflow, bit 2. -/
  pv : Bool
  /-- Add or subtract, bit 1. -/
  n : Bool
  /-- Carry, bit 0. -/
  c : Bool
  deriving DecidableEq, Repr

/-- F as a byte, in the layout of 10_state.md R50. -/
def Flags.toByte (f : Flags) : Byte :=
  BitVec.ofBool f.s ++ BitVec.ofBool f.z ++ BitVec.ofBool f.b5 ++ BitVec.ofBool f.h ++
    BitVec.ofBool f.b3 ++ BitVec.ofBool f.pv ++ BitVec.ofBool f.n ++ BitVec.ofBool f.c

/-- F from a byte, in the layout of 10_state.md R50. -/
def Flags.ofByte (v : Byte) : Flags :=
  { s := v.getLsbD 7, z := v.getLsbD 6, b5 := v.getLsbD 5, h := v.getLsbD 4,
    b3 := v.getLsbD 3, pv := v.getLsbD 2, n := v.getLsbD 1, c := v.getLsbD 0 }

/-- A record of the six named flags, as the primitives return it (00_scope.md section 6). -/
structure NamedFlags where
  s : Bool
  z : Bool
  h : Bool
  pv : Bool
  n : Bool
  c : Bool
  deriving DecidableEq, Repr

/-- The six named flags as they stand in F. -/
def Flags.named (f : Flags) : NamedFlags :=
  { s := f.s, z := f.z, h := f.h, pv := f.pv, n := f.n, c := f.c }

/-- `f` with its six named flags replaced; the two unnamed bits stay (10_state.md R51). -/
def Flags.withNamed (f : Flags) (g : NamedFlags) : Flags :=
  { s := g.s, z := g.z, b5 := f.b5, h := g.h, b3 := f.b3, pv := g.pv, n := g.n, c := g.c }

/-! ## Results -/

/-- An 8-bit result with its flags. -/
structure Result8 where
  res : Byte
  flags : NamedFlags
  deriving DecidableEq, Repr

/-- A 16-bit result with its flags. -/
structure Result16 where
  res : Word
  flags : NamedFlags
  deriving DecidableEq, Repr

/-- The result of a rotate or shift: the byte and the bit that goes to the carry (00_scope.md R19). -/
structure ShiftResult where
  res : Byte
  cout : Bool
  deriving DecidableEq, Repr

/-! ## The primitives -/

/-- `parity(v)`: true when the number of 1 bits of `v` is even (00_scope.md R12). -/
def parity (v : Byte) : Bool :=
  !(v.getLsbD 0 ^^ v.getLsbD 1 ^^ v.getLsbD 2 ^^ v.getLsbD 3 ^^
    v.getLsbD 4 ^^ v.getLsbD 5 ^^ v.getLsbD 6 ^^ v.getLsbD 7)

/-- `zero(v)` (00_scope.md R13). -/
def isZero {w : Nat} (v : BitVec w) : Bool := v.toNat == 0

/-- `add8(a, b, cin)` (00_scope.md R14). -/
def add8 (a b : Byte) (cin : Bool) : Result8 :=
  let sum := a.toNat + b.toNat + cin.toNat
  let res := BitVec.ofNat 8 sum
  { res := res
    flags :=
      { s := res.msb
        z := isZero res
        h := decide (a.toNat % 16 + b.toNat % 16 + cin.toNat > 15)
        pv := a.msb == b.msb && res.msb != a.msb
        n := false
        c := decide (sum > 255) } }

/-- `sub8(a, b, cin)` (00_scope.md R15). -/
def sub8 (a b : Byte) (cin : Bool) : Result8 :=
  let diff : Int := (a.toNat : Int) - b.toNat - cin.toNat
  let res := BitVec.ofInt 8 diff
  { res := res
    flags :=
      { s := res.msb
        z := isZero res
        h := decide (((a.toNat % 16 : Nat) : Int) - (b.toNat % 16 : Nat) - cin.toNat < 0)
        pv := a.msb != b.msb && res.msb != a.msb
        n := true
        c := decide (diff < 0) } }

/-- `add16(a, b, cin)` (00_scope.md R16). -/
def add16 (a b : Word) (cin : Bool) : Result16 :=
  let sum := a.toNat + b.toNat + cin.toNat
  let res := BitVec.ofNat 16 sum
  { res := res
    flags :=
      { s := res.msb
        z := isZero res
        h := decide (a.toNat % 4096 + b.toNat % 4096 + cin.toNat > 4095)
        pv := a.msb == b.msb && res.msb != a.msb
        n := false
        c := decide (sum > 65535) } }

/-- `sub16(a, b, cin)` (00_scope.md R16). -/
def sub16 (a b : Word) (cin : Bool) : Result16 :=
  let diff : Int := (a.toNat : Int) - b.toNat - cin.toNat
  let res := BitVec.ofInt 16 diff
  { res := res
    flags :=
      { s := res.msb
        z := isZero res
        h := decide (((a.toNat % 4096 : Nat) : Int) - (b.toNat % 4096 : Nat) - cin.toNat < 0)
        pv := a.msb != b.msb && res.msb != a.msb
        n := true
        c := decide (diff < 0) } }

/-- `logic_flags(res, h)` (00_scope.md R17). -/
def logicFlags (res : Byte) (h : Bool) : NamedFlags :=
  { s := res.msb, z := isZero res, h := h, pv := parity res, n := false, c := false }

/-- `shift_flags(res, cout)` (00_scope.md R18). -/
def shiftFlags (x : ShiftResult) : NamedFlags :=
  { s := x.res.msb, z := isZero x.res, h := false, pv := parity x.res, n := false, c := x.cout }

/-- `inc8(v)`; the carry is not produced, so it is passed through (00_scope.md R23). -/
def inc8 (v : Byte) (c : Bool) : Result8 :=
  let res := v + 1#8
  { res := res
    flags :=
      { s := res.msb, z := isZero res, h := v.toNat % 16 == 15, pv := v.toNat == 0x7F, n := false, c := c } }

/-- `dec8(v)`; the carry is not produced, so it is passed through (00_scope.md R23). -/
def dec8 (v : Byte) (c : Bool) : Result8 :=
  let res := v - 1#8
  { res := res
    flags :=
      { s := res.msb, z := isZero res, h := v.toNat % 16 == 0, pv := v.toNat == 0x80, n := true, c := c } }

/-! ## Rotates and shifts (00_scope.md R19) -/

/-- The byte `v[6:0] ++ b`. -/
def shiftInLow (v : Byte) (b : Bool) : Byte := v.extractLsb' 0 7 ++ BitVec.ofBool b

/-- The byte `b ++ v[7:1]`. -/
def shiftInHigh (b : Bool) (v : Byte) : Byte := BitVec.ofBool b ++ v.extractLsb' 1 7

/-- `rlc(v)`. -/
def rlc (v : Byte) : ShiftResult := { res := shiftInLow v (v.getLsbD 7), cout := v.getLsbD 7 }

/-- `rl(v, c)`. -/
def rl (v : Byte) (c : Bool) : ShiftResult := { res := shiftInLow v c, cout := v.getLsbD 7 }

/-- `rrc(v)`. -/
def rrc (v : Byte) : ShiftResult := { res := shiftInHigh (v.getLsbD 0) v, cout := v.getLsbD 0 }

/-- `rr(v, c)`. -/
def rr (v : Byte) (c : Bool) : ShiftResult := { res := shiftInHigh c v, cout := v.getLsbD 0 }

/-- `sla(v)`. -/
def sla (v : Byte) : ShiftResult := { res := shiftInLow v false, cout := v.getLsbD 7 }

/-- `sra(v)`. -/
def sra (v : Byte) : ShiftResult := { res := shiftInHigh (v.getLsbD 7) v, cout := v.getLsbD 0 }

/-- `srl(v)`. -/
def srl (v : Byte) : ShiftResult := { res := shiftInHigh false v, cout := v.getLsbD 0 }

/-- The low four bits of a byte. -/
def loNibble (v : Byte) : BitVec 4 := v.extractLsb' 0 4

/-- The high four bits of a byte. -/
def hiNibble (v : Byte) : BitVec 4 := v.extractLsb' 4 4

/-! ## Bits of a byte (30_encoding.md R119) -/

/-- The byte with only bit `b` set: `1 << b`. -/
def bitMask (b : BitVec 3) : Byte := 1#8 <<< b.toNat

/-- Bit `b` of `v`. -/
def testBit (v : Byte) (b : BitVec 3) : Bool := v.getLsbD b.toNat

/-- `v or (1 << b)` (49 R547). -/
def setBit (v : Byte) (b : BitVec 3) : Byte := v ||| bitMask b

/-- `v and not (1 << b)` (48 R480). -/
def resetBit (v : Byte) (b : BitVec 3) : Byte := v &&& ~~~(bitMask b)

/-! ## Decimal adjustment (42 R270) -/

/-- A row of the DAA table: N and C before, the range of the high digit, H before, the range of the low digit, the
byte added to A, and C after (42 R270). -/
structure DaaRow where
  n : Bool
  c : Bool
  hiFrom : Nat
  hiTo : Nat
  h : Bool
  loFrom : Nat
  loTo : Nat
  add : Byte
  carry : Bool
  deriving DecidableEq, Repr

/-- The thirteen rows of the DAA table, in its order (42 R270). -/
def daaTable : List DaaRow :=
  [ ⟨false, false, 0x0, 0x9, false, 0x0, 0x9, 0x00#8, false⟩,
    ⟨false, false, 0x0, 0x8, false, 0xA, 0xF, 0x06#8, false⟩,
    ⟨false, false, 0x0, 0x9, true, 0x0, 0x3, 0x06#8, false⟩,
    ⟨false, false, 0xA, 0xF, false, 0x0, 0x9, 0x60#8, true⟩,
    ⟨false, false, 0x9, 0xF, false, 0xA, 0xF, 0x66#8, true⟩,
    ⟨false, false, 0xA, 0xF, true, 0x0, 0x3, 0x66#8, true⟩,
    ⟨false, true, 0x0, 0x2, false, 0x0, 0x9, 0x60#8, true⟩,
    ⟨false, true, 0x0, 0x2, false, 0xA, 0xF, 0x66#8, true⟩,
    ⟨false, true, 0x0, 0x3, true, 0x0, 0x3, 0x66#8, true⟩,
    ⟨true, false, 0x0, 0x9, false, 0x0, 0x9, 0x00#8, false⟩,
    ⟨true, false, 0x0, 0x8, true, 0x6, 0xF, 0xFA#8, false⟩,
    ⟨true, true, 0x7, 0xF, false, 0x0, 0x9, 0xA0#8, true⟩,
    ⟨true, true, 0x6, 0xF, true, 0x6, 0xF, 0x9A#8, true⟩ ]

/-- Whether (N, C, hi, H, lo) matches a row (42 R270). -/
def daaMatches (row : DaaRow) (n c h : Bool) (a : Byte) : Bool :=
  row.n == n && row.c == c && row.h == h &&
    Nat.ble row.hiFrom (hiNibble a).toNat && Nat.ble (hiNibble a).toNat row.hiTo &&
    Nat.ble row.loFrom (loNibble a).toNat && Nat.ble (loNibble a).toNat row.loTo

/-- The row of the DAA table that a state before DAA matches, if any (42 R270). -/
def daaRow (n c h : Bool) (a : Byte) : Option DaaRow :=
  daaTable.find? (fun row => daaMatches row n c h a)

end Sys2Proof.Machine
end

