-- ==== Sys2Proof/Config.lean ====
section
/-! DEFINITION. What an implementation or a platform fixes: the open parameters of 92_eei_decisions.md as plain data,
and the sources of the values the spec leaves unknown (`any1()`, `any8()`), which have no body, so that nothing can be
proved of them. -/

namespace Sys2Proof

/-- The free values `any8()` and `any1()` (00_scope.md R10, 10_state.md R51, R52): the k-th value drawn is
`Config.freeByte k`. No body: a claim holds whatever it is. Log entry 3. -/
opaque Config.freeByte : Nat → Byte

/-- What a read of an unmapped address gives at draw `k` (20_memory.md R85): a free value that depends on the moment
and the address. Log entry 17. -/
opaque Config.floatingByte : Nat → Word → Byte

/-- What `MEMMAP` says an address holds (20_memory.md R85). -/
inductive MemKind where
  /-- Holds the byte last written to it. -/
  | ram
  /-- Holds a fixed byte and ignores writes. -/
  | rom
  /-- Reads any value and ignores writes. -/
  | unmapped
  deriving DecidableEq, Repr

/-- A region of the memory map: the addresses `lo` to `hi`, both included. Log entry 5. -/
structure MemRegion where
  lo : Nat
  hi : Nat
  kind : MemKind
  deriving DecidableEq, Repr

/-- The parameter `UNDEF_OPCODE` (30_encoding.md R135). Log entry 7. -/
inductive UndefOpcode where
  | refuse | fault
  deriving DecidableEq, Repr

/-- One value of `R_STEP` given as a table: after a step with this cause that finds `old` in R, R is `new`. The cause is
the instruction of the step, or none for the entry to an interrupt that runs no instruction. Log entry 8. -/
structure RStepRow where
  cause : Option Instr
  old : Byte
  new : Byte
  deriving DecidableEq, Repr

/-- The parameter `R_STEP`, a function of R and the instruction (10_state.md R54; 92_eei_decisions.md D15). Log entry 8. -/
inductive RStep where
  /-- After a step the low seven bits of R are any value and bit 7 is kept: the default. -/
  | any
  /-- The low seven bits of R count opcode fetches and bit 7 is kept. -/
  | fetchCount
  /-- The function with these values, all eight bits of R; the first row that fits counts, and where no row fits the
  low seven bits are any value and bit 7 is kept. Every function of R and the instruction is a list of rows. -/
  | table (rows : List RStepRow)
  deriving DecidableEq, Repr

/-- A value of a port function: every 16-bit I/O address that agrees with `addr` in the places where `mask` has a 1
reads as `value`. -/
structure PortEntry where
  mask : Word
  addr : Word
  value : Byte
  deriving DecidableEq, Repr

/-- The read side of `IOSPACE` at one moment, a function from the 16-bit I/O address to a byte (00_scope.md R6;
20_memory.md R86): the first entry that holds an address says its byte; an address in no entry reads as any value. Log
entry 10. -/
abbrev PortFunction := List PortEntry

/-- The parameter `RESET_STATE`: the registers that reset leaves unspecified (10_state.md R61). Log entry 1. -/
structure ResetState where
  a : Byte
  f : Machine.Flags
  b : Byte
  c : Byte
  d : Byte
  e : Byte
  h : Byte
  l : Byte
  altA : Byte
  altF : Machine.Flags
  altB : Byte
  altC : Byte
  altD : Byte
  altE : Byte
  altH : Byte
  altL : Byte
  ix : Word
  iy : Word
  sp : Word
  deriving DecidableEq, Repr

/-- The open parameters that are plain data (00_scope.md R6; 92_eei_decisions.md). -/
structure Params where
  /-- `MEMMAP`: the first region that holds an address says its kind; an address in no region is RAM. -/
  memMap : List MemRegion
  /-- `ORXOR_H`: the H flag after OR and XOR. -/
  orxorH : Bool
  /-- `UNDEF_OPCODE`. -/
  undefOpcode : UndefOpcode
  /-- `R_STEP`. -/
  rStep : RStep
  /-- `RESET_STATE`. -/
  resetState : ResetState
  /-- `CLOCK_HZ`: the clock, used by no rule (70_reset_and_hazards.md R660). Log entry 16. -/
  clockHz : Nat
  deriving DecidableEq, Repr

/-- The value of `RESET_STATE` in `Params.default`: every register zero. DESIGN CHOICE, unsafe: log entry 1. -/
def ResetState.zero : ResetState :=
  { a := 0#8, f := Machine.Flags.ofByte 0#8, b := 0#8, c := 0#8, d := 0#8, e := 0#8, h := 0#8, l := 0#8,
    altA := 0#8, altF := Machine.Flags.ofByte 0#8, altB := 0#8, altC := 0#8, altD := 0#8, altE := 0#8,
    altH := 0#8, altL := 0#8, ix := 0#16, iy := 0#16, sp := 0#16 }

/-- The defaults of 92_eei_decisions.md: 64 Kbyte of RAM, `ORXOR_H` = 1, undefined encodings refused, R free, 4 MHz. -/
def Params.default : Params :=
  { memMap := [], orxorH := true, undefOpcode := .refuse, rStep := .any, resetState := .zero, clockHz := 4000000 }

end Sys2Proof
end

