-- ==== Sys2Proof/Machine/State.lean ====
section
/-! DEFINITION. The state of the machine as plain data: every register and flip-flop of 10_state.md R40, memory, the
open parameters, and the environment's inputs and outputs; and the reasons a step can stop. -/

namespace Sys2Proof.Machine

/-- The interrupt mode (10_state.md R56). -/
inductive IntMode where
  | im0 | im1 | im2
  deriving DecidableEq, Repr

/-- What `INT_SOURCE` presents at one boundary between two steps (10_state.md R60; 60_exceptions.md R601 to R603;
70_reset_and_hazards.md R650). Log entry 9. -/
structure BoundaryInput where
  /-- Reset is requested. -/
  reset : Bool
  /-- A non-maskable interrupt is requested: the latch `nmi_pending` is set. -/
  nmi : Bool
  /-- The maskable request line: asserted with the bytes the device will put on the data bus, or not asserted. -/
  int : Option (List Byte)
  deriving DecidableEq, Repr

/-- The boundary input of a quiet environment: no request. -/
def BoundaryInput.quiet : BoundaryInput := { reset := false, nmi := false, int := none }

/-- What the devices see the CPU do (20_memory.md R86; 48 R486). Log entry 11. -/
inductive BusEvent where
  /-- A port read at a 16-bit I/O address, with the byte the device gave. -/
  | ioRead (addr : Word) (value : Byte)
  /-- A port write at a 16-bit I/O address. -/
  | ioWrite (addr : Word) (value : Byte)
  /-- The execution of RETI. -/
  | reti
  deriving DecidableEq, Repr

/-- Memory: address and byte pairs in canonical form (see `Memory.wf`). -/
abbrev Memory := List Host.Cell

/-- The state of the machine. -/
structure State where
  /-- The accumulator. -/
  a : Byte
  /-- The flag register. -/
  f : Flags
  b : Byte
  c : Byte
  d : Byte
  e : Byte
  h : Byte
  l : Byte
  /-- The alternate register set (10_state.md R43). -/
  altA : Byte
  altF : Flags
  altB : Byte
  altC : Byte
  altD : Byte
  altE : Byte
  altH : Byte
  altL : Byte
  /-- The index registers, the stack pointer and the program counter (10_state.md R44, R45, R46). -/
  ix : Word
  iy : Word
  sp : Word
  pc : Word
  /-- The interrupt vector register and the refresh register (10_state.md R53, R54). -/
  i : Byte
  r : Byte
  /-- The interrupt enable flip-flops (10_state.md R55). -/
  iff1 : Bool
  iff2 : Bool
  /-- The interrupt mode (10_state.md R56). -/
  im : IntMode
  /-- The halt state (10_state.md R58). -/
  halted : Bool
  /-- The one-instruction hold-off after EI (10_state.md R59). -/
  eiShadow : Bool
  /-- The latch of the non-maskable request (10_state.md R60). -/
  nmiPending : Bool
  /-- Memory, RAM and ROM contents (20_memory.md R80, R85). -/
  mem : Memory
  /-- The open parameters (00_scope.md R6); no step changes them. -/
  params : Params
  /-- The environment's requests, one entry for each coming boundary; none left means no request. Log entry 9. -/
  inputs : List BoundaryInput
  /-- The read side of `IOSPACE`: the function that answers the coming port read, and those that answer the later ones;
  the last one stays. Log entry 10. -/
  ioSpace : List PortFunction
  /-- What the devices have seen, the newest first. Log entry 11. -/
  bus : List BusEvent
  /-- The model's own counter of free values drawn. Log entry 3. -/
  free : Nat
  deriving DecidableEq, Repr

/-- The machine right after reset (10_state.md R61; 70_reset_and_hazards.md R651), with the default parameters, nothing
in memory and a quiet environment. The registers the spec leaves unspecified take the values of log entry 1. -/
def State.reset : State :=
  { a := 0#8, f := Flags.ofByte 0#8, b := 0#8, c := 0#8, d := 0#8, e := 0#8, h := 0#8, l := 0#8,
    altA := 0#8, altF := Flags.ofByte 0#8, altB := 0#8, altC := 0#8, altD := 0#8, altE := 0#8, altH := 0#8,
    altL := 0#8, ix := 0#16, iy := 0#16, sp := 0#16, pc := 0#16, i := 0#8, r := 0#8, iff1 := false, iff2 := false,
    im := .im0, halted := false, eiShadow := false, nmiPending := false, mem := [], params := Params.default,
    inputs := [], ioSpace := [], bus := [], free := 0 }

/-- The reasons a step stops with a fault. -/
inductive Fault where
  /-- Raised by a step that fetches, or is supplied at an interrupt, an encoding the spec does not define, when the
  parameter `UNDEF_OPCODE` is `fault` (30_encoding.md R135); names the bytes. Safe: the real part goes on. -/
  | undefinedEncoding (bytes : List Byte)
  deriving DecidableEq, Repr

/-- The reasons a step is refused. -/
inductive Refusal where
  /-- Raised by an arm of `exec` whose instruction has no meaning yet. Safe: the real part goes on. -/
  | notModelled (mnemonic : String)
  /-- Raised by a step that fetches, or is supplied at an interrupt, an encoding the spec does not define, when the
  parameter `UNDEF_OPCODE` is `refuse` (30_encoding.md R135; 93_implementation_defined.md U4, U14); names the bytes.
  Safe: the real part goes on. -/
  | undefinedEncoding (bytes : List Byte)
  deriving DecidableEq, Repr

end Sys2Proof.Machine
end

