-- ==== Sys2Proof/Machine/Ops.lean ====
section
/-! DEFINITION. The named operations over memory, registers, free values and ports; taking an interrupt, returning
from one, reset, and the advance of R. -/

namespace Sys2Proof.Machine

/-- What a meaning and a step answer. -/
abbrev StepOutcome := Host.Outcome State Fault Refusal

/-! ## Memory (20_memory.md R80, R83 to R85) -/

/-- What a byte of memory that nothing has written reads as. DESIGN CHOICE, unsafe: log entry 2. -/
def Memory.unlisted : Byte := 0#8

/-- The byte held at an address. -/
def Memory.read : Memory → Nat → Byte
  | [], _ => Memory.unlisted
  | (k, v) :: m, a => if a = k then v else Memory.read m a

/-- Store a byte, keeping the canonical form: addresses rise, and no entry holds the byte an unlisted address reads
as. -/
def Memory.write : Memory → Nat → Byte → Memory
  | [], a, v => if v = Memory.unlisted then [] else [(a, v)]
  | (k, w) :: m, a, v =>
    if a < k then
      if v = Memory.unlisted then (k, w) :: m else (a, v) :: (k, w) :: m
    else if a = k then
      if v = Memory.unlisted then m else (k, v) :: m
    else (k, w) :: Memory.write m a v

/-- The addresses of `m` are at least `lo`, rise strictly, lie below 65536, and no entry holds the byte an unlisted
address reads as. -/
def Memory.wfFrom : Nat → Memory → Bool
  | _, [] => true
  | lo, (k, v) :: m => Nat.ble lo k && Nat.blt k 65536 && !(v == Memory.unlisted) && Memory.wfFrom (k + 1) m

/-- The canonical form of memory. -/
def Memory.wf (m : Memory) : Bool := Memory.wfFrom 0 m

/-- What a region list says an address holds: the first region that contains it, else RAM (20_memory.md R85). -/
def kindIn : List MemRegion → Nat → MemKind
  | [], _ => .ram
  | r :: rs, a => if Nat.ble r.lo a && Nat.ble a r.hi then r.kind else kindIn rs a

/-- What `MEMMAP` says an address holds (20_memory.md R85). -/
def State.kindAt (s : State) (addr : Word) : MemKind := kindIn s.params.memMap addr.toNat

/-- `MemRead(addr, 1)` (20_memory.md R83, R85): RAM and ROM give the byte held, an unmapped address gives a free
value. -/
def State.read8 (s : State) (addr : Word) : Byte :=
  match s.kindAt addr with
  | .unmapped => Config.floatingByte s.free addr
  | _ => Memory.read s.mem addr.toNat

/-- Memory after `MemWrite(addr, 1, v)`: ROM and unmapped addresses ignore the write (20_memory.md R85). -/
def State.memAfter (s : State) (addr : Word) (v : Byte) : Memory :=
  match s.kindAt addr with
  | .ram => Memory.write s.mem addr.toNat v
  | _ => s.mem

/-- `MemWrite(addr, 1, v)` (20_memory.md R84, R85). -/
def State.write8 (s : State) (addr : Word) (v : Byte) : State := { s with mem := s.memAfter addr v }

/-- `MemRead(addr, 2)`: low byte at `addr`, high byte at the next address (20_memory.md R83, R87). -/
def State.read16 (s : State) (addr : Word) : Word := mkWord (s.read8 (addr + 1#16)) (s.read8 addr)

/-- `MemWrite(addr, 2, v)`: low byte first, then the high byte at the next address (20_memory.md R84, R87). -/
def State.write16 (s : State) (addr : Word) (v : Word) : State :=
  (s.write8 addr (loByte v)).write8 (addr + 1#16) (hiByte v)

/-! ## Registers (10_state.md R41, R42) -/

/-- The contents of an 8-bit register. -/
def State.readReg (s : State) : Reg → Byte
  | .b => s.b | .c => s.c | .d => s.d | .e => s.e | .h => s.h | .l => s.l | .a => s.a

/-- Write an 8-bit register. -/
def State.writeReg (s : State) : Reg → Byte → State
  | .b, v => { s with b := v }
  | .c, v => { s with c := v }
  | .d, v => { s with d := v }
  | .e, v => { s with e := v }
  | .h, v => { s with h := v }
  | .l, v => { s with l := v }
  | .a, v => { s with a := v }

/-- `BC = B ++ C` (10_state.md R42). -/
def State.bc (s : State) : Word := mkWord s.b s.c

/-- `DE = D ++ E` (10_state.md R42). -/
def State.de (s : State) : Word := mkWord s.d s.e

/-- `HL = H ++ L` (10_state.md R42). -/
def State.hl (s : State) : Word := mkWord s.h s.l

/-- `AF = A ++ F` (10_state.md R42). -/
def State.af (s : State) : Word := mkWord s.a s.f.toByte

/-- Write BC (10_state.md R42). -/
def State.setBC (s : State) (v : Word) : State := { s with b := hiByte v, c := loByte v }

/-- Write DE (10_state.md R42). -/
def State.setDE (s : State) (v : Word) : State := { s with d := hiByte v, e := loByte v }

/-- Write HL (10_state.md R42). -/
def State.setHL (s : State) (v : Word) : State := { s with h := hiByte v, l := loByte v }

/-- Write AF, all eight bits of F included (10_state.md R42, R51). -/
def State.setAF (s : State) (v : Word) : State := { s with a := hiByte v, f := Flags.ofByte (loByte v) }

/-! ## Free values and flags -/

/-- The next free value `any8()` (00_scope.md R10). -/
def State.freshByte (s : State) : Byte := Config.freeByte s.free

/-- Eight free bits `any1()`, one for each place of F (00_scope.md R10; 10_state.md R51, R52). -/
def State.freshFlags (s : State) : Flags := Flags.ofByte s.freshByte

/-- Move on to the next free value. -/
def State.drawn (s : State) : State := { s with free := s.free + 1 }

/-- Write named flags: the two unnamed bits of F become free (10_state.md R51; 00_scope.md R11). -/
def State.storeFlags (s : State) (g : NamedFlags) : State :=
  { s with f := s.freshFlags.withNamed g, free := s.free + 1 }

/-! ## The stack (00_scope.md R21; 10_state.md R45) -/

/-- `push16(v)`: the high byte at SP - 1 first, then the low byte at SP - 2, and SP goes down by 2. -/
def State.push16 (s : State) (v : Word) : State :=
  { s with
    mem := (s.write8 (s.sp - 1#16) (hiByte v)).memAfter (s.sp - 2#16) (loByte v)
    sp := s.sp - 2#16 }

/-- The word on the top of the stack: low byte at SP, high byte at SP + 1. -/
def State.stackTop (s : State) : Word := s.read16 s.sp

/-- `pop16()` without its result: SP goes up by 2. -/
def State.popped (s : State) : State := { s with sp := s.sp + 2#16 }

/-! ## Ports (20_memory.md R81, R86) -/

/-- What a port function says of a 16-bit I/O address: the first entry that holds it, if there is one. -/
def portValue : PortFunction → Word → Option Byte
  | [], _ => none
  | e :: es, addr => if addr &&& e.mask = e.addr &&& e.mask then some e.value else portValue es addr

/-- The port functions left after a read: the next one comes to the front, and the last one stays. -/
def laterPorts : List PortFunction → List PortFunction
  | [] => []
  | [p] => [p]
  | _ :: p :: ps => p :: ps

/-- `IoRead(addr)`, the byte: what `IOSPACE` presents at the 16-bit I/O address now, or a free value where it says
nothing (20_memory.md R86). Log entry 10. -/
def State.portByte (s : State) (addr : Word) : Byte :=
  match s.ioSpace with
  | [] => s.freshByte
  | p :: _ => (portValue p addr).getD s.freshByte

/-- `IoRead(addr)`, the state: the devices have seen the read, and the next port function answers the next one. -/
def State.afterIoRead (s : State) (addr : Word) : State :=
  { s with ioSpace := laterPorts s.ioSpace, bus := .ioRead addr (s.portByte addr) :: s.bus, free := s.free + 1 }

/-- `IoWrite(addr, v)`: the device sees the write (20_memory.md R86). -/
def State.ioWrite (s : State) (addr : Word) (v : Byte) : State :=
  { s with bus := .ioWrite addr v :: s.bus }

/-! ## Taking an interrupt and returning from one (60_exceptions.md R606 to R613) -/

/-- Save the PC on the stack and go to an entry address: what every interrupt entry and every restart does
(60_exceptions.md R608, R610, R612). -/
def State.enter (s : State) (target : Word) : State :=
  { s.push16 s.pc with pc := target }

/-- Acceptance of a non-maskable interrupt (60_exceptions.md R610). -/
def State.acceptNmi (s : State) : State :=
  { s with nmiPending := false, halted := false, eiShadow := false, iff1 := false }.enter 0x0066#16

/-- What acceptance of a maskable interrupt does in every mode (60_exceptions.md R606). -/
def State.acceptIntCommon (s : State) : State :=
  { s with halted := false, iff1 := false, iff2 := false, eiShadow := false }

/-- The mode 1 response (60_exceptions.md R608). -/
def State.respondMode1 (s : State) : State := s.enter 0x0038#16

/-- The address of the mode 2 table entry: `I ++ v` (60_exceptions.md R609). -/
def State.vectorAddress (s : State) (v : Byte) : Word := mkWord s.i v

/-- The mode 2 response to the byte `v`: the push comes before the table is read (60_exceptions.md R609). -/
def State.respondMode2 (s : State) (v : Byte) : State :=
  let s1 := s.push16 s.pc
  { s1 with pc := s1.read16 (s.vectorAddress v) }

/-- `pc <- pop16()` (48 R484). -/
def State.returnPC (s : State) : State := { s.popped with pc := s.stackTop }

/-- The return of RETN and RETI: `pc <- pop16(); IFF1 <- IFF2` (48 R486, R487; 60_exceptions.md R613). -/
def State.returnFromInterrupt (s : State) : State := { s.returnPC with iff1 := s.iff2 }

/-! ## Reset (70_reset_and_hazards.md R650, R651; 10_state.md R61) -/

/-- Reset: the table of 10_state.md R61, the unspecified registers from `RESET_STATE`. Memory, the parameters and the
environment are not touched. -/
def State.resetCpu (s : State) : State :=
  let v := s.params.resetState
  { s with
    pc := 0#16, iff1 := false, iff2 := false, im := .im0, i := 0#8, r := 0#8, halted := false, eiShadow := false,
    nmiPending := false,
    a := v.a, f := v.f, b := v.b, c := v.c, d := v.d, e := v.e, h := v.h, l := v.l,
    altA := v.altA, altF := v.altF, altB := v.altB, altC := v.altC, altD := v.altD, altE := v.altE,
    altH := v.altH, altL := v.altL, ix := v.ix, iy := v.iy, sp := v.sp }

/-! ## The refresh register (10_state.md R54; 92_eei_decisions.md D15) -/

/-- The number of opcode fetches of an instruction: two behind a CB, DD, ED or FD prefix, else one (D15). -/
def opcodeFetches (i : Instr) : Nat :=
  match encode i with
  | b0 :: _ =>
    if b0 = 0xCB#8 ∨ b0 = 0xDD#8 ∨ b0 = 0xED#8 ∨ b0 = 0xFD#8 then 2 else 1
  | [] => 1

/-- The number of opcode fetches of a step: those of its instruction, none in an entry to an interrupt that runs no
instruction. Log entry 8. -/
def causeFetches : Option Instr → Nat
  | some i => opcodeFetches i
  | none => 0

/-- Bit 7 of `r` above the low seven bits of `low`. -/
def keepBit7 (r low : Byte) : Byte := r.extractLsb' 7 1 ++ low.extractLsb' 0 7

/-- The value that a table of `R_STEP` gives for a cause and R: the first row that fits, if there is one. -/
def rStepValue : List RStepRow → Option Instr → Byte → Option Byte
  | [], _, _ => none
  | x :: xs, cause, r => if x.cause = cause ∧ x.old = r then some x.new else rStepValue xs cause r

/-- The value of `R_STEP` for a step that runs an instruction, or enters an interrupt and runs none (10_state.md R54;
92_eei_decisions.md D15). Log entry 8. -/
def State.steppedR (s : State) (cause : Option Instr) : Byte :=
  match s.params.rStep with
  | .any => keepBit7 s.r s.freshByte
  | .fetchCount => keepBit7 s.r (s.r + BitVec.ofNat 8 (causeFetches cause))
  | .table rows => (rStepValue rows cause s.r).getD (keepBit7 s.r s.freshByte)

/-- R after a step that runs an instruction, or enters an interrupt and runs none. -/
def State.advanceR (s : State) (cause : Option Instr) : State :=
  { s with r := s.steppedR cause, free := s.free + 1 }

/-- R after the step of an instruction: LD R,A sets R itself, last (46 R405); every other instruction advances it. -/
def State.advanceRFor (s : State) (i : Instr) : State :=
  if i = .ldRefreshA then s.drawn else s.advanceR (some i)

/-! ## Fetching (10_state.md R46; 20_memory.md R98) -/

/-- The four bytes at PC, as many as the longest instruction has. Log entry 13. -/
def State.fetchBytes (s : State) : List Byte :=
  [s.read8 s.pc, s.read8 (s.pc + 1#16), s.read8 (s.pc + 2#16), s.read8 (s.pc + 3#16)]

/-- The bytes an interrupting device supplies in mode 0, free ones behind those it names (60_exceptions.md R607).
Log entry 12. -/
def State.suppliedBytes (s : State) (bytes : List Byte) : List Byte :=
  (bytes ++ [Config.freeByte s.free, Config.freeByte (s.free + 1), Config.freeByte (s.free + 2),
    Config.freeByte (s.free + 3)]).take 4

/-- The byte an interrupting device supplies in mode 2, a free one if it names none (60_exceptions.md R609). -/
def State.suppliedVector (s : State) (bytes : List Byte) : Byte :=
  match bytes with
  | v :: _ => v
  | [] => s.freshByte

/-- Store bytes at PC and behind it in memory as it is held, whatever `MEMMAP` says: the loading of a program from
outside the machine. Log entry 15. -/
def Memory.load : Memory → Word → List Byte → Memory
  | m, _, [] => m
  | m, addr, v :: vs => Memory.load (Memory.write m addr.toNat v) (addr + 1#16) vs

end Sys2Proof.Machine
end

