-- ==== Sys2Proof/Machine/Operands.lean ====
section
/-! DEFINITION. The operand forms of the instructions: register pairs by field, the effective addresses, the memory
operands, the conditions and the jump targets. -/

namespace Sys2Proof.Machine

/-! ## Register pairs by field (30_encoding.md R117) -/

/-- The contents of a `dd` or `ss` operand. -/
def State.readPair (s : State) : Pair → Word
  | .bc => s.bc | .de => s.de | .hl => s.hl | .sp => s.sp

/-- Write a `dd` or `ss` operand. -/
def State.writePair (s : State) : Pair → Word → State
  | .bc, v => s.setBC v
  | .de, v => s.setDE v
  | .hl, v => s.setHL v
  | .sp, v => { s with sp := v }

/-- The contents of a `qq` operand. -/
def State.readStackPair (s : State) : StackPair → Word
  | .bc => s.bc | .de => s.de | .hl => s.hl | .af => s.af

/-- Write a `qq` operand. -/
def State.writeStackPair (s : State) : StackPair → Word → State
  | .bc, v => s.setBC v
  | .de, v => s.setDE v
  | .hl, v => s.setHL v
  | .af, v => s.setAF v

/-- The contents of a `pp` operand. -/
def State.readIXPair (s : State) : IXPair → Word
  | .bc => s.bc | .de => s.de | .ix => s.ix | .sp => s.sp

/-- The contents of an `rr` operand. -/
def State.readIYPair (s : State) : IYPair → Word
  | .bc => s.bc | .de => s.de | .iy => s.iy | .sp => s.sp

/-! ## Addresses and memory operands -/

/-- `ea(X, d)`: the index register plus the displacement read as a two's complement number (00_scope.md R22). -/
def ea (x : Word) (d : Byte) : Word := x + d.signExtend 16

/-- The address of the operand (IX+d). -/
def State.addrIX (s : State) (d : Byte) : Word := ea s.ix d

/-- The address of the operand (IY+d). -/
def State.addrIY (s : State) (d : Byte) : Word := ea s.iy d

/-- The operand (HL). -/
def State.atHL (s : State) : Byte := s.read8 s.hl

/-- The operand (IX+d). -/
def State.atIX (s : State) (d : Byte) : Byte := s.read8 (s.addrIX d)

/-- The operand (IY+d). -/
def State.atIY (s : State) (d : Byte) : Byte := s.read8 (s.addrIY d)

/-- The I/O address of IN r,(C), OUT (C),r and the block I/O instructions: `B ++ C` (20_memory.md R81). -/
def State.portBC (s : State) : Word := mkWord s.b s.c

/-- The I/O address of IN A,(n) and OUT (n),A: `A ++ n` (20_memory.md R81). -/
def State.portA (s : State) (n : Byte) : Word := mkWord s.a n

/-! ## Conditions and targets -/

/-- `cond(cc)` (00_scope.md R20). -/
def condHolds (f : Flags) : Cond → Bool
  | .nz => !f.z | .z => f.z | .nc => !f.c | .c => f.c
  | .po => !f.pv | .pe => f.pv | .p => !f.s | .m => f.s

/-- The target of a relative jump from `next` (44_jp_jr.md R345). -/
def relTarget (next : Word) (disp : Byte) : Word := next + disp.signExtend 16

/-- Go to an address. -/
def State.jump (s : State) (target : Word) : State := { s with pc := target }

/-- Go to an address when a condition holds. -/
def State.jumpIf (s : State) (taken : Bool) (target : Word) : State :=
  { s with pc := if taken then target else s.pc }

/-- Repeat a two-byte instruction: PC goes back to its first byte (10_state.md R48). -/
def State.repeatIf (s : State) (again : Bool) : State :=
  { s with pc := if again then s.pc - 2#16 else s.pc }

end Sys2Proof.Machine
end

