-- ==== Sys2Proof/Machine/Accumulator.lean ====
section
/-! DEFINITION. DAA, CPL, NEG, CCF and SCF. -/

namespace Sys2Proof.Machine

/-- The end of DAA: A takes its new value; S, Z and P/V come from it, N stays, C is given, H is free (42 R270;
92_eei_decisions.md D17). -/
def State.acceptDaa (s : State) (res : Byte) (carry : Bool) : State :=
  { s with a := res }.storeFlags
    { s := res.msb, z := isZero res, h := s.freshFlags.h, pv := parity res, n := s.f.n, c := carry }

/-- The free A and C that DAA leaves in a state that matches no row of its table (42 R270; D17). -/
def State.acceptDaaFree (s : State) : State :=
  s.drawn.acceptDaa s.freshByte s.drawn.freshFlags.c

/-- DAA (42 R270). -/
def execDaa (s : State) : StepOutcome :=
  match daaRow s.f.n s.f.c s.f.h s.a with
  | some row => .next (s.acceptDaa (s.a + row.add) row.carry)
  | none => .next s.acceptDaaFree

/-- CPL (41 R246). -/
def execCpl (s : State) : StepOutcome :=
  .next ({ s with a := ~~~s.a }.storeFlags { s.f.named with h := true, n := true })

/-- NEG (47 R440). -/
def execNeg (s : State) : StepOutcome :=
  .next (let x := sub8 0#8 s.a false; { s with a := x.res }.storeFlags x.flags)

/-- CCF (41 R236). -/
def execCcf (s : State) : StepOutcome :=
  .next (s.storeFlags { s.f.named with h := s.f.c, n := false, c := !s.f.c })

/-- SCF (49 R546). -/
def execScf (s : State) : StepOutcome :=
  .next (s.storeFlags { s.f.named with h := false, n := false, c := true })

end Sys2Proof.Machine
end

