-- ==== Sys2Proof/Machine/Alu16.lean ====
section
/-! DEFINITION. 16-bit arithmetic. -/

namespace Sys2Proof.Machine

/-- The flags of ADD HL,ss, ADD IX,pp and ADD IY,rr: H, N and C from the sum, the others as they were
(00_scope.md R16). -/
def sumFlags16 (old : Flags) (x : Result16) : NamedFlags :=
  { old.named with h := x.flags.h, n := false, c := x.flags.c }

/-- ADD HL,ss (40 R211). -/
def execAddHLSs (ss : Pair) (s : State) : StepOutcome :=
  let x := add16 s.hl (s.readPair ss) false
  .next ((s.setHL x.res).storeFlags (sumFlags16 s.f x))

/-- ADD IX,pp (40 R212). -/
def execAddIXPp (pp : IXPair) (s : State) : StepOutcome :=
  let x := add16 s.ix (s.readIXPair pp) false
  .next ({ s with ix := x.res }.storeFlags (sumFlags16 s.f x))

/-- ADD IY,rr (40 R213). -/
def execAddIYRr (rr : IYPair) (s : State) : StepOutcome :=
  let x := add16 s.iy (s.readIYPair rr) false
  .next ({ s with iy := x.res }.storeFlags (sumFlags16 s.f x))

/-- ADC HL,ss (40 R200). -/
def execAdcHLSs (ss : Pair) (s : State) : StepOutcome :=
  let x := add16 s.hl (s.readPair ss) s.f.c
  .next ((s.setHL x.res).storeFlags x.flags)

/-- SBC HL,ss (49 R545). -/
def execSbcHLSs (ss : Pair) (s : State) : StepOutcome :=
  let x := sub16 s.hl (s.readPair ss) s.f.c
  .next ((s.setHL x.res).storeFlags x.flags)

/-- INC ss (43 R312). -/
def execIncSs (ss : Pair) (s : State) : StepOutcome := .next (s.writePair ss (s.readPair ss + 1#16))

/-- DEC ss (42 R277). -/
def execDecSs (ss : Pair) (s : State) : StepOutcome := .next (s.writePair ss (s.readPair ss - 1#16))

/-- INC IX (43 R307). -/
def execIncIX (s : State) : StepOutcome := .next ({ s with ix := s.ix + 1#16 })

/-- INC IY (43 R309). -/
def execIncIY (s : State) : StepOutcome := .next ({ s with iy := s.iy + 1#16 })

/-- DEC IX (42 R275). -/
def execDecIX (s : State) : StepOutcome := .next ({ s with ix := s.ix - 1#16 })

/-- DEC IY (42 R276). -/
def execDecIY (s : State) : StepOutcome := .next ({ s with iy := s.iy - 1#16 })

end Sys2Proof.Machine
end

