-- ==== Sys2Proof/Machine/Alu8.lean ====
section
/-! DEFINITION. 8-bit arithmetic and logic on A, and INC and DEC of a byte (files 40, 41, 42, 43, 47, 49 of the spec). -/

namespace Sys2Proof.Machine

/-! ## What the operations on A share -/

/-- Put a result in A and store its flags: `A <- f.res`, all six flags from f. -/
def State.accept8 (s : State) (x : Result8) : State := { s with a := x.res }.storeFlags x.flags

/-- Put a logic result in A and store `logic_flags(res, h)` (00_scope.md R17). -/
def State.acceptLogic (s : State) (res : Byte) (h : Bool) : State :=
  { s with a := res }.storeFlags (logicFlags res h)

/-- Put a result in a register and store its flags. -/
def State.acceptReg (s : State) (r : Reg) (x : Result8) : State := (s.writeReg r x.res).storeFlags x.flags

/-- Store a result in memory and store its flags: the end of a read-modify-write. -/
def State.acceptMem (s : State) (addr : Word) (x : Result8) : State := (s.write8 addr x.res).storeFlags x.flags

/-! ## ADD A,s -/

/-- ADD A,r (40 R207). -/
def execAddAR (r : Reg) (s : State) : StepOutcome := .next (s.accept8 (add8 s.a (s.readReg r) false))

/-- ADD A,n (40 R206). -/
def execAddAN (n : Byte) (s : State) : StepOutcome := .next (s.accept8 (add8 s.a n false))

/-- ADD A,(HL) (40 R208). -/
def execAddAAtHL (s : State) : StepOutcome := .next (s.accept8 (add8 s.a s.atHL false))

/-- ADD A,(IX+d) (40 R209). -/
def execAddAAtIX (d : Byte) (s : State) : StepOutcome := .next (s.accept8 (add8 s.a (s.atIX d) false))

/-- ADD A,(IY+d) (40 R210). -/
def execAddAAtIY (d : Byte) (s : State) : StepOutcome := .next (s.accept8 (add8 s.a (s.atIY d) false))

/-! ## ADC A,s -/

/-- ADC A,r (40 R201). -/
def execAdcAR (r : Reg) (s : State) : StepOutcome := .next (s.accept8 (add8 s.a (s.readReg r) s.f.c))

/-- ADC A,n (40 R202). -/
def execAdcAN (n : Byte) (s : State) : StepOutcome := .next (s.accept8 (add8 s.a n s.f.c))

/-- ADC A,(HL) (40 R203). -/
def execAdcAAtHL (s : State) : StepOutcome := .next (s.accept8 (add8 s.a s.atHL s.f.c))

/-- ADC A,(IX+d) (40 R204). -/
def execAdcAAtIX (d : Byte) (s : State) : StepOutcome := .next (s.accept8 (add8 s.a (s.atIX d) s.f.c))

/-- ADC A,(IY+d) (40 R205). -/
def execAdcAAtIY (d : Byte) (s : State) : StepOutcome := .next (s.accept8 (add8 s.a (s.atIY d) s.f.c))

/-! ## SUB s -/

/-- SUB r (49 R563). -/
def execSubR (r : Reg) (s : State) : StepOutcome := .next (s.accept8 (sub8 s.a (s.readReg r) false))

/-- SUB n (49 R564). -/
def execSubN (n : Byte) (s : State) : StepOutcome := .next (s.accept8 (sub8 s.a n false))

/-- SUB (HL) (49 R565). -/
def execSubAtHL (s : State) : StepOutcome := .next (s.accept8 (sub8 s.a s.atHL false))

/-- SUB (IX+d) (49 R566). -/
def execSubAtIX (d : Byte) (s : State) : StepOutcome := .next (s.accept8 (sub8 s.a (s.atIX d) false))

/-- SUB (IY+d) (49 R567). -/
def execSubAtIY (d : Byte) (s : State) : StepOutcome := .next (s.accept8 (sub8 s.a (s.atIY d) false))

/-! ## SBC A,s -/

/-- SBC A,r (49 R540). -/
def execSbcAR (r : Reg) (s : State) : StepOutcome := .next (s.accept8 (sub8 s.a (s.readReg r) s.f.c))

/-- SBC A,n (49 R541). -/
def execSbcAN (n : Byte) (s : State) : StepOutcome := .next (s.accept8 (sub8 s.a n s.f.c))

/-- SBC A,(HL) (49 R542). -/
def execSbcAAtHL (s : State) : StepOutcome := .next (s.accept8 (sub8 s.a s.atHL s.f.c))

/-- SBC A,(IX+d) (49 R543). -/
def execSbcAAtIX (d : Byte) (s : State) : StepOutcome := .next (s.accept8 (sub8 s.a (s.atIX d) s.f.c))

/-- SBC A,(IY+d) (49 R544). -/
def execSbcAAtIY (d : Byte) (s : State) : StepOutcome := .next (s.accept8 (sub8 s.a (s.atIY d) s.f.c))

/-! ## AND s -/

/-- AND r (40 R214). -/
def execAndR (r : Reg) (s : State) : StepOutcome := .next (s.acceptLogic (s.a &&& (s.readReg r)) true)

/-- AND n (40 R215). -/
def execAndN (n : Byte) (s : State) : StepOutcome := .next (s.acceptLogic (s.a &&& n) true)

/-- AND (HL) (40 R216). -/
def execAndAtHL (s : State) : StepOutcome := .next (s.acceptLogic (s.a &&& s.atHL) true)

/-- AND (IX+d) (40 R217). -/
def execAndAtIX (d : Byte) (s : State) : StepOutcome := .next (s.acceptLogic (s.a &&& (s.atIX d)) true)

/-- AND (IY+d) (40 R218). -/
def execAndAtIY (d : Byte) (s : State) : StepOutcome := .next (s.acceptLogic (s.a &&& (s.atIY d)) true)

/-! ## OR s -/

/-- OR r (47 R443). -/
def execOrR (r : Reg) (s : State) : StepOutcome := .next (s.acceptLogic (s.a ||| (s.readReg r)) s.params.orxorH)

/-- OR n (47 R444). -/
def execOrN (n : Byte) (s : State) : StepOutcome := .next (s.acceptLogic (s.a ||| n) s.params.orxorH)

/-- OR (HL) (47 R445). -/
def execOrAtHL (s : State) : StepOutcome := .next (s.acceptLogic (s.a ||| s.atHL) s.params.orxorH)

/-- OR (IX+d) (47 R446). -/
def execOrAtIX (d : Byte) (s : State) : StepOutcome := .next (s.acceptLogic (s.a ||| (s.atIX d)) s.params.orxorH)

/-- OR (IY+d) (47 R447). -/
def execOrAtIY (d : Byte) (s : State) : StepOutcome := .next (s.acceptLogic (s.a ||| (s.atIY d)) s.params.orxorH)

/-! ## XOR s -/

/-- XOR r (49 R568). -/
def execXorR (r : Reg) (s : State) : StepOutcome := .next (s.acceptLogic (s.a ^^^ (s.readReg r)) s.params.orxorH)

/-- XOR n (49 R569). -/
def execXorN (n : Byte) (s : State) : StepOutcome := .next (s.acceptLogic (s.a ^^^ n) s.params.orxorH)

/-- XOR (HL) (49 R570). -/
def execXorAtHL (s : State) : StepOutcome := .next (s.acceptLogic (s.a ^^^ s.atHL) s.params.orxorH)

/-- XOR (IX+d) (49 R571). -/
def execXorAtIX (d : Byte) (s : State) : StepOutcome := .next (s.acceptLogic (s.a ^^^ (s.atIX d)) s.params.orxorH)

/-- XOR (IY+d) (49 R572). -/
def execXorAtIY (d : Byte) (s : State) : StepOutcome := .next (s.acceptLogic (s.a ^^^ (s.atIY d)) s.params.orxorH)

/-! ## CP s: the difference is discarded -/

/-- CP r (41 R237). -/
def execCpR (r : Reg) (s : State) : StepOutcome := .next (s.storeFlags (sub8 s.a (s.readReg r) false).flags)

/-- CP n (41 R238). -/
def execCpN (n : Byte) (s : State) : StepOutcome := .next (s.storeFlags (sub8 s.a n false).flags)

/-- CP (HL) (41 R239). -/
def execCpAtHL (s : State) : StepOutcome := .next (s.storeFlags (sub8 s.a s.atHL false).flags)

/-- CP (IX+d) (41 R240). -/
def execCpAtIX (d : Byte) (s : State) : StepOutcome := .next (s.storeFlags (sub8 s.a (s.atIX d) false).flags)

/-- CP (IY+d) (41 R241). -/
def execCpAtIY (d : Byte) (s : State) : StepOutcome := .next (s.storeFlags (sub8 s.a (s.atIY d) false).flags)

/-! ## INC of a byte -/

/-- INC r (43 R311). -/
def execIncR (r : Reg) (s : State) : StepOutcome := .next (s.acceptReg r (inc8 (s.readReg r) s.f.c))

/-- INC (HL) (43 R306). -/
def execIncAtHL (s : State) : StepOutcome := .next (s.acceptMem s.hl (inc8 s.atHL s.f.c))

/-- INC (IX+d) (43 R308). -/
def execIncAtIX (d : Byte) (s : State) : StepOutcome := .next (s.acceptMem (s.addrIX d) (inc8 (s.atIX d) s.f.c))

/-- INC (IY+d) (43 R310). -/
def execIncAtIY (d : Byte) (s : State) : StepOutcome := .next (s.acceptMem (s.addrIY d) (inc8 (s.atIY d) s.f.c))

/-! ## DEC of a byte -/

/-- DEC r (42 R271). -/
def execDecR (r : Reg) (s : State) : StepOutcome := .next (s.acceptReg r (dec8 (s.readReg r) s.f.c))

/-- DEC (HL) (42 R272). -/
def execDecAtHL (s : State) : StepOutcome := .next (s.acceptMem s.hl (dec8 s.atHL s.f.c))

/-- DEC (IX+d) (42 R273). -/
def execDecAtIX (d : Byte) (s : State) : StepOutcome := .next (s.acceptMem (s.addrIX d) (dec8 (s.atIX d) s.f.c))

/-- DEC (IY+d) (42 R274). -/
def execDecAtIY (d : Byte) (s : State) : StepOutcome := .next (s.acceptMem (s.addrIY d) (dec8 (s.atIY d) s.f.c))

end Sys2Proof.Machine
end

