-- ==== Sys2Proof/Machine/Bits.lean ====
section
/-! DEFINITION. BIT, SET and RES (files 41, 48, 49 of the spec). -/

namespace Sys2Proof.Machine

/-- The flags of BIT: Z is the complement of the bit, H is set, N is cleared, C stays, S and P/V are free
(41 R230; 10_state.md R52). -/
def State.bitFlags (s : State) (bit : Bool) : State :=
  s.storeFlags { s := s.freshFlags.s, z := !bit, h := true, pv := s.freshFlags.pv, n := false, c := s.f.c }

/-- BIT b,r (41 R233). -/
def execBitBR (b : BitVec 3) (r : Reg) (s : State) : StepOutcome := .next (s.bitFlags (testBit (s.readReg r) b))

/-- BIT b,(HL) (41 R230). -/
def execBitBAtHL (b : BitVec 3) (s : State) : StepOutcome := .next (s.bitFlags (testBit s.atHL b))

/-- BIT b,(IX+d) (41 R231). -/
def execBitBAtIX (b : BitVec 3) (d : Byte) (s : State) : StepOutcome := .next (s.bitFlags (testBit (s.atIX d) b))

/-- BIT b,(IY+d) (41 R232). -/
def execBitBAtIY (b : BitVec 3) (d : Byte) (s : State) : StepOutcome := .next (s.bitFlags (testBit (s.atIY d) b))

/-- SET b,r (49 R550). -/
def execSetBR (b : BitVec 3) (r : Reg) (s : State) : StepOutcome := .next (s.writeReg r (setBit (s.readReg r) b))

/-- SET b,(HL) (49 R547). -/
def execSetBAtHL (b : BitVec 3) (s : State) : StepOutcome := .next (s.write8 s.hl (setBit s.atHL b))

/-- SET b,(IX+d) (49 R548). -/
def execSetBAtIX (b : BitVec 3) (d : Byte) (s : State) : StepOutcome := .next (s.write8 (s.addrIX d) (setBit (s.atIX d) b))

/-- SET b,(IY+d) (49 R549). -/
def execSetBAtIY (b : BitVec 3) (d : Byte) (s : State) : StepOutcome := .next (s.write8 (s.addrIY d) (setBit (s.atIY d) b))

/-- RES b,r (48 R480). -/
def execResBR (b : BitVec 3) (r : Reg) (s : State) : StepOutcome := .next (s.writeReg r (resetBit (s.readReg r) b))

/-- RES b,(HL) (48 R481). -/
def execResBAtHL (b : BitVec 3) (s : State) : StepOutcome := .next (s.write8 s.hl (resetBit s.atHL b))

/-- RES b,(IX+d) (48 R482). -/
def execResBAtIX (b : BitVec 3) (d : Byte) (s : State) : StepOutcome := .next (s.write8 (s.addrIX d) (resetBit (s.atIX d) b))

/-- RES b,(IY+d) (48 R483). -/
def execResBAtIY (b : BitVec 3) (d : Byte) (s : State) : StepOutcome := .next (s.write8 (s.addrIY d) (resetBit (s.atIY d) b))

end Sys2Proof.Machine
end

