-- ==== Sys2Proof/Machine/Block.lean ====
section
/-! DEFINITION. Block transfer and block search (files 41 and 46 of the spec). One iteration is one step (10_state.md R48). -/

namespace Sys2Proof.Machine

/-! ## Block transfer -/

/-- One transfer: the byte at HL goes to DE, then DE and HL step by `delta` and BC counts down; H and N are cleared,
P/V says whether BC is not 0, S, Z and C stay (46 R414 to R417). -/
def State.blockTransfer (s : State) (delta : Word) : State :=
  let s1 := s.write8 s.de s.atHL
  let s2 := ((s1.setDE (s.de + delta)).setHL (s.hl + delta)).setBC (s.bc - 1#16)
  s2.storeFlags { s.f.named with h := false, pv := !isZero (s.bc - 1#16), n := false }

/-- LDI (46 R416). -/
def execLdi (s : State) : StepOutcome := .next (s.blockTransfer 1#16)

/-- LDD (46 R414). -/
def execLdd (s : State) : StepOutcome := .next (s.blockTransfer (-1#16))

/-- LDIR (46 R417). -/
def execLdir (s : State) : StepOutcome := .next ((s.blockTransfer 1#16).repeatIf (!isZero (s.bc - 1#16)))

/-- LDDR (46 R415). -/
def execLddr (s : State) : StepOutcome := .next ((s.blockTransfer (-1#16)).repeatIf (!isZero (s.bc - 1#16)))

/-! ## Block search -/

/-- The comparison of A with the byte at HL (41 R242). -/
def State.blockDifference (s : State) : Result8 := sub8 s.a s.atHL false

/-- One comparison: HL steps by `delta` and BC counts down; S, Z and H come from A - (HL), P/V says whether BC is not
0, N is set, C stays (41 R242 to R245). -/
def State.blockCompare (s : State) (delta : Word) : State :=
  ((s.setHL (s.hl + delta)).setBC (s.bc - 1#16)).storeFlags
    { s.blockDifference.flags with pv := !isZero (s.bc - 1#16), c := s.f.c }

/-- Whether CPIR and CPDR repeat: BC is not 0 after the decrement and A was not found (41 R243, R245). -/
def State.searchGoesOn (s : State) : Bool := !isZero (s.bc - 1#16) && !s.blockDifference.flags.z

/-- CPI (41 R244). -/
def execCpi (s : State) : StepOutcome := .next (s.blockCompare 1#16)

/-- CPD (41 R242). -/
def execCpd (s : State) : StepOutcome := .next (s.blockCompare (-1#16))

/-- CPIR (41 R245). -/
def execCpir (s : State) : StepOutcome := .next ((s.blockCompare 1#16).repeatIf s.searchGoesOn)

/-- CPDR (41 R243). -/
def execCpdr (s : State) : StepOutcome := .next ((s.blockCompare (-1#16)).repeatIf s.searchGoesOn)

end Sys2Proof.Machine
end

