-- ==== Sys2Proof/Machine/Control.lean ====
section
/-! DEFINITION. CPU control (files 42, 43, 47 of the spec). -/

namespace Sys2Proof.Machine

/-- NOP (47 R441). -/
def execNop (s : State) : StepOutcome := .next (s)

/-- HALT (43 R300). -/
def execHalt (s : State) : StepOutcome := .next ({ s with halted := true })

/-- DI (42 R278). -/
def execDi (s : State) : StepOutcome := .next ({ s with iff1 := false, iff2 := false, eiShadow := false })

/-- EI (42 R283). -/
def execEi (s : State) : StepOutcome := .next ({ s with iff1 := true, iff2 := true, eiShadow := true })

/-- IM 0 (43 R301). -/
def execIm0 (s : State) : StepOutcome := .next ({ s with im := .im0 })

/-- IM 1 (43 R302). -/
def execIm1 (s : State) : StepOutcome := .next ({ s with im := .im1 })

/-- IM 2 (43 R303). -/
def execIm2 (s : State) : StepOutcome := .next ({ s with im := .im2 })

end Sys2Proof.Machine
end

