-- ==== Sys2Proof/Machine/Exchange.lean ====
section
/-! DEFINITION. Exchanges (file 42 of the spec). -/

namespace Sys2Proof.Machine

/-- Replace the word on the top of the stack: high byte at SP + 1 first, then the low byte at SP (42 R284). -/
def State.exchangeTop (s : State) (v : Word) : State :=
  (s.write8 (s.sp + 1#16) (hiByte v)).write8 s.sp (loByte v)

/-- EX (SP),HL (42 R284). -/
def execExAtSPHL (s : State) : StepOutcome := .next ((s.exchangeTop s.hl).setHL s.stackTop)

/-- EX (SP),IX (42 R285). -/
def execExAtSPIX (s : State) : StepOutcome := .next ({ s.exchangeTop s.ix with ix := s.stackTop })

/-- EX (SP),IY (42 R289). -/
def execExAtSPIY (s : State) : StepOutcome := .next ({ s.exchangeTop s.iy with iy := s.stackTop })

/-- EX AF,AF' (42 R286). -/
def execExAFAF (s : State) : StepOutcome :=
  .next ({ s with a := s.altA, f := s.altF, altA := s.a, altF := s.f })

/-- EX DE,HL (42 R287). -/
def execExDEHL (s : State) : StepOutcome := .next ({ s with d := s.h, e := s.l, h := s.d, l := s.e })

/-- EXX (42 R288). -/
def execExx (s : State) : StepOutcome :=
  .next
    { s with
      b := s.altB, c := s.altC, d := s.altD, e := s.altE, h := s.altH, l := s.altL,
      altB := s.b, altC := s.c, altD := s.d, altE := s.e, altH := s.h, altL := s.l }

end Sys2Proof.Machine
end

