-- ==== Sys2Proof/Machine/InOut.lean ====
section
/-! DEFINITION. Input and output (files 43 and 47 of the spec). -/

namespace Sys2Proof.Machine

/-- IN A,(n) (43 R304). -/
def execInAN (n : Byte) (s : State) : StepOutcome := .next ({ s.afterIoRead (s.portA n) with a := s.portByte (s.portA n) })

/-- IN r,(C): the register takes the byte; S, Z and P/V come from it, H and N are cleared, C stays (43 R305). -/
def State.acceptInput (s : State) (r : Reg) (v : Byte) : State :=
  (s.writeReg r v).storeFlags { s := v.msb, z := isZero v, h := false, pv := parity v, n := false, c := s.f.c }

/-- IN r,(C) (43 R305). -/
def execInRC (r : Reg) (s : State) : StepOutcome := .next ((s.afterIoRead s.portBC).acceptInput r (s.portByte s.portBC))

/-- OUT (n),A (47 R451). -/
def execOutNA (n : Byte) (s : State) : StepOutcome := .next (s.ioWrite (s.portA n) s.a)

/-- OUT (C),r (47 R450). -/
def execOutCR (r : Reg) (s : State) : StepOutcome := .next (s.ioWrite s.portBC (s.readReg r))

/-! ## Block input and output -/

/-- The end of a block input or output: B counts down and HL steps; Z says whether B is 0, N is set, C stays, S, H and
P/V are free (43 R313; 47 R452; 10_state.md R52). -/
def State.blockIoEnd (s : State) (delta : Word) : State :=
  ({ s with b := s.b - 1#8 }.setHL (s.hl + delta)).storeFlags
    { s := s.freshFlags.s, z := isZero (s.b - 1#8), h := s.freshFlags.h, pv := s.freshFlags.pv, n := true,
      c := s.f.c }

/-- One block input: port read at B ++ C with B as it was, then memory write at HL (43 R313, R315; D19). -/
def State.blockIn (s : State) (delta : Word) : State :=
  ((s.afterIoRead s.portBC).write8 s.hl (s.portByte s.portBC)).blockIoEnd delta

/-- One block output: memory read at HL, then port write at B ++ C with B already decremented (47 R452, R453; D19). -/
def State.blockOut (s : State) (delta : Word) : State :=
  (s.ioWrite (mkWord (s.b - 1#8) s.c) s.atHL).blockIoEnd delta

/-- INI (43 R315). -/
def execIni (s : State) : StepOutcome := .next (s.blockIn 1#16)

/-- IND (43 R313). -/
def execInd (s : State) : StepOutcome := .next (s.blockIn (-1#16))

/-- INIR (43 R316). -/
def execInir (s : State) : StepOutcome := .next ((s.blockIn 1#16).repeatIf (!isZero (s.b - 1#8)))

/-- INDR (43 R314). -/
def execIndr (s : State) : StepOutcome := .next ((s.blockIn (-1#16)).repeatIf (!isZero (s.b - 1#8)))

/-- OUTI (47 R453). -/
def execOuti (s : State) : StepOutcome := .next (s.blockOut 1#16)

/-- OUTD (47 R452). -/
def execOutd (s : State) : StepOutcome := .next (s.blockOut (-1#16))

/-- OTIR (47 R449). -/
def execOtir (s : State) : StepOutcome := .next ((s.blockOut 1#16).repeatIf (!isZero (s.b - 1#8)))

/-- OTDR (47 R448). -/
def execOtdr (s : State) : StepOutcome := .next ((s.blockOut (-1#16)).repeatIf (!isZero (s.b - 1#8)))

end Sys2Proof.Machine
end

