-- ==== Sys2Proof/Machine/Jump.lean ====
section
/-! DEFINITION. Jumps, calls, returns and restarts (files 41, 42, 44, 48 of the spec). -/

namespace Sys2Proof.Machine

/-! ## Jumps: PC holds `next` when the meaning runs (10_state.md R46) -/

/-- JP nn (44 R344). -/
def execJpNN (nn : Word) (s : State) : StepOutcome := .next (s.jump nn)

/-- JP cc,nn (44 R343). -/
def execJpCcNN (cc : Cond) (nn : Word) (s : State) : StepOutcome := .next (s.jumpIf (condHolds s.f cc) nn)

/-- JP (HL) (44 R340). -/
def execJpHL (s : State) : StepOutcome := .next (s.jump s.hl)

/-- JP (IX) (44 R341). -/
def execJpIX (s : State) : StepOutcome := .next (s.jump s.ix)

/-- JP (IY) (44 R342). -/
def execJpIY (s : State) : StepOutcome := .next (s.jump s.iy)

/-- JR e (44 R346). -/
def execJr (disp : Byte) (s : State) : StepOutcome := .next (s.jump (relTarget s.pc disp))

/-- JR C,e (44 R347). -/
def execJrC (disp : Byte) (s : State) : StepOutcome := .next (s.jumpIf s.f.c (relTarget s.pc disp))

/-- JR NC,e (44 R348). -/
def execJrNC (disp : Byte) (s : State) : StepOutcome := .next (s.jumpIf (!s.f.c) (relTarget s.pc disp))

/-- JR Z,e (44 R350). -/
def execJrZ (disp : Byte) (s : State) : StepOutcome := .next (s.jumpIf s.f.z (relTarget s.pc disp))

/-- JR NZ,e (44 R349). -/
def execJrNZ (disp : Byte) (s : State) : StepOutcome := .next (s.jumpIf (!s.f.z) (relTarget s.pc disp))

/-- DJNZ e (42 R279). -/
def execDjnz (disp : Byte) (s : State) : StepOutcome :=
  .next ({ s with b := s.b - 1#8 }.jumpIf (!isZero (s.b - 1#8)) (relTarget s.pc disp))

/-! ## Calls, returns and restarts -/

/-- CALL nn (41 R235). -/
def execCallNN (nn : Word) (s : State) : StepOutcome := .next (s.enter nn)

/-- CALL cc,nn (41 R234). -/
def execCallCcNN (cc : Cond) (nn : Word) (s : State) : StepOutcome := .next (if condHolds s.f cc then s.enter nn else s)

/-- RET (48 R484). -/
def execRet (s : State) : StepOutcome := .next (s.returnPC)

/-- RET cc (48 R485). -/
def execRetCc (cc : Cond) (s : State) : StepOutcome := .next (if condHolds s.f cc then s.returnPC else s)

/-- RETI (48 R486). -/
def execReti (s : State) : StepOutcome := .next ({ s.returnFromInterrupt with bus := .reti :: s.bus })

/-- RETN (48 R487). -/
def execRetn (s : State) : StepOutcome := .next (s.returnFromInterrupt)

/-- RST p (48 R510). -/
def execRst (p : Byte) (s : State) : StepOutcome := .next (s.enter (mkWord 0#8 p))

end Sys2Proof.Machine
end

