-- ==== Sys2Proof/Machine/Load.lean ====
section
/-! DEFINITION. Loads, PUSH and POP (files 45, 46, 47 of the spec). No load but LD A,I and LD A,R writes a flag (45 R360). -/

namespace Sys2Proof.Machine

/-! ## 8-bit loads -/

/-- LD r,r' (46 R410). -/
def execLdRR (r : Reg) (r' : Reg) (s : State) : StepOutcome := .next (s.writeReg r (s.readReg r'))

/-- LD r,n (46 R409). -/
def execLdRN (r : Reg) (n : Byte) (s : State) : StepOutcome := .next (s.writeReg r n)

/-- LD r,(HL) (46 R406). -/
def execLdRAtHL (r : Reg) (s : State) : StepOutcome := .next (s.writeReg r s.atHL)

/-- LD r,(IX+d) (46 R407). -/
def execLdRAtIX (r : Reg) (d : Byte) (s : State) : StepOutcome := .next (s.writeReg r (s.atIX d))

/-- LD r,(IY+d) (46 R408). -/
def execLdRAtIY (r : Reg) (d : Byte) (s : State) : StepOutcome := .next (s.writeReg r (s.atIY d))

/-- LD (HL),r (45 R372). -/
def execLdAtHLR (r : Reg) (s : State) : StepOutcome := .next (s.write8 s.hl (s.readReg r))

/-- LD (IX+d),r (45 R377). -/
def execLdAtIXR (d : Byte) (r : Reg) (s : State) : StepOutcome := .next (s.write8 (s.addrIX d) (s.readReg r))

/-- LD (IY+d),r (45 R381). -/
def execLdAtIYR (d : Byte) (r : Reg) (s : State) : StepOutcome := .next (s.write8 (s.addrIY d) (s.readReg r))

/-- LD (HL),n (45 R368). -/
def execLdAtHLN (n : Byte) (s : State) : StepOutcome := .next (s.write8 s.hl n)

/-- LD (IX+d),n (45 R376). -/
def execLdAtIXN (d : Byte) (n : Byte) (s : State) : StepOutcome := .next (s.write8 (s.addrIX d) n)

/-- LD (IY+d),n (45 R380). -/
def execLdAtIYN (d : Byte) (n : Byte) (s : State) : StepOutcome := .next (s.write8 (s.addrIY d) n)

/-- LD A,(BC) (45 R361). -/
def execLdAAtBC (s : State) : StepOutcome := .next ({ s with a := s.read8 s.bc })

/-- LD A,(DE) (45 R362). -/
def execLdAAtDE (s : State) : StepOutcome := .next ({ s with a := s.read8 s.de })

/-- LD A,(nn) (45 R364). -/
def execLdAAtNN (nn : Word) (s : State) : StepOutcome := .next ({ s with a := s.read8 nn })

/-- LD (BC),A (45 R366). -/
def execLdAtBCA (s : State) : StepOutcome := .next (s.write8 s.bc s.a)

/-- LD (DE),A (45 R367). -/
def execLdAtDEA (s : State) : StepOutcome := .next (s.write8 s.de s.a)

/-- LD (nn),A (46 R400). -/
def execLdAtNNA (nn : Word) (s : State) : StepOutcome := .next (s.write8 nn s.a)

/-! ## Loads from and to I and R -/

/-- LD A,I and LD A,R: A takes the value; S and Z come from it, P/V is IFF2, H and N are cleared, C stays
(45 R363, R365). -/
def State.loadAFromControl (s : State) (v : Byte) : State :=
  { s with a := v }.storeFlags { s := v.msb, z := isZero v, h := false, pv := s.iff2, n := false, c := s.f.c }

/-- LD A,I (45 R363). -/
def execLdAI (s : State) : StepOutcome := .next (s.loadAFromControl s.i)

/-- LD A,R (45 R365). -/
def execLdARefresh (s : State) : StepOutcome := .next (s.loadAFromControl s.r)

/-- LD I,A (45 R373). -/
def execLdIA (s : State) : StepOutcome := .next ({ s with i := s.a })

/-- LD R,A (46 R405). -/
def execLdRefreshA (s : State) : StepOutcome := .next ({ s with r := s.a })

/-! ## 16-bit loads -/

/-- LD dd,nn (45 R369). -/
def execLdDdNN (dd : Pair) (nn : Word) (s : State) : StepOutcome := .next (s.writePair dd nn)

/-- LD IX,nn (45 R374). -/
def execLdIXNN (nn : Word) (s : State) : StepOutcome := .next ({ s with ix := nn })

/-- LD IY,nn (45 R378). -/
def execLdIYNN (nn : Word) (s : State) : StepOutcome := .next ({ s with iy := nn })

/-- LD HL,(nn) (45 R371). -/
def execLdHLAtNN (nn : Word) (s : State) : StepOutcome := .next (s.setHL (s.read16 nn))

/-- LD dd,(nn) (45 R370). -/
def execLdDdAtNN (dd : Pair) (nn : Word) (s : State) : StepOutcome := .next (s.writePair dd (s.read16 nn))

/-- LD IX,(nn) (45 R375). -/
def execLdIXAtNN (nn : Word) (s : State) : StepOutcome := .next ({ s with ix := s.read16 nn })

/-- LD IY,(nn) (45 R379). -/
def execLdIYAtNN (nn : Word) (s : State) : StepOutcome := .next ({ s with iy := s.read16 nn })

/-- LD (nn),HL (46 R402). -/
def execLdAtNNHL (nn : Word) (s : State) : StepOutcome := .next (s.write16 nn s.hl)

/-- LD (nn),dd (46 R401). -/
def execLdAtNNDd (nn : Word) (dd : Pair) (s : State) : StepOutcome := .next (s.write16 nn (s.readPair dd))

/-- LD (nn),IX (46 R403). -/
def execLdAtNNIX (nn : Word) (s : State) : StepOutcome := .next (s.write16 nn s.ix)

/-- LD (nn),IY (46 R404). -/
def execLdAtNNIY (nn : Word) (s : State) : StepOutcome := .next (s.write16 nn s.iy)

/-- LD SP,HL (46 R411). -/
def execLdSPHL (s : State) : StepOutcome := .next ({ s with sp := s.hl })

/-- LD SP,IX (46 R412). -/
def execLdSPIX (s : State) : StepOutcome := .next ({ s with sp := s.ix })

/-- LD SP,IY (46 R413). -/
def execLdSPIY (s : State) : StepOutcome := .next ({ s with sp := s.iy })

/-! ## PUSH and POP -/

/-- PUSH qq (47 R459). -/
def execPushQq (qq : StackPair) (s : State) : StepOutcome := .next (s.push16 (s.readStackPair qq))

/-- PUSH IX (47 R457). -/
def execPushIX (s : State) : StepOutcome := .next (s.push16 s.ix)

/-- PUSH IY (47 R458). -/
def execPushIY (s : State) : StepOutcome := .next (s.push16 s.iy)

/-- POP qq (47 R456). -/
def execPopQq (qq : StackPair) (s : State) : StepOutcome := .next (s.popped.writeStackPair qq s.stackTop)

/-- POP IX (47 R454). -/
def execPopIX (s : State) : StepOutcome := .next ({ s.popped with ix := s.stackTop })

/-- POP IY (47 R455). -/
def execPopIY (s : State) : StepOutcome := .next ({ s.popped with iy := s.stackTop })

end Sys2Proof.Machine
end

