-- ==== Sys2Proof/Machine/Rotate.lean ====
section
/-! DEFINITION. Rotates and shifts (files 48 and 49 of the spec). -/

namespace Sys2Proof.Machine

/-- A rotate of the accumulator: H and N are cleared, C takes the bit shifted out, S, Z and P/V stay
(00_scope.md R18). -/
def State.rotateA (s : State) (x : ShiftResult) : State :=
  { s with a := x.res }.storeFlags { s.f.named with h := false, n := false, c := x.cout }

/-- A rotate or shift of a register, with `shift_flags` (00_scope.md R18). -/
def State.shiftReg (s : State) (r : Reg) (x : ShiftResult) : State :=
  (s.writeReg r x.res).storeFlags (shiftFlags x)

/-- A rotate or shift of a memory byte, with `shift_flags` (00_scope.md R18). -/
def State.shiftMem (s : State) (addr : Word) (x : ShiftResult) : State :=
  (s.write8 addr x.res).storeFlags (shiftFlags x)

/-- RLCA (48 R497). -/
def execRlca (s : State) : StepOutcome := .next (s.rotateA (rlc s.a))

/-- RLA (48 R492). -/
def execRla (s : State) : StepOutcome := .next (s.rotateA (rl s.a s.f.c))

/-- RRCA (48 R508). -/
def execRrca (s : State) : StepOutcome := .next (s.rotateA (rrc s.a))

/-- RRA (48 R503). -/
def execRra (s : State) : StepOutcome := .next (s.rotateA (rr s.a s.f.c))

/-! ## RLC -/

/-- RLC r (48 R496). -/
def execRlcR (r : Reg) (s : State) : StepOutcome := .next (s.shiftReg r (rlc (s.readReg r)))

/-- RLC (HL) (48 R493). -/
def execRlcAtHL (s : State) : StepOutcome := .next (s.shiftMem s.hl (rlc s.atHL))

/-- RLC (IX+d) (48 R494). -/
def execRlcAtIX (d : Byte) (s : State) : StepOutcome := .next (s.shiftMem (s.addrIX d) (rlc (s.atIX d)))

/-- RLC (IY+d) (48 R495). -/
def execRlcAtIY (d : Byte) (s : State) : StepOutcome := .next (s.shiftMem (s.addrIY d) (rlc (s.atIY d)))

/-! ## RL -/

/-- RL r (48 R488). -/
def execRlR (r : Reg) (s : State) : StepOutcome := .next (s.shiftReg r (rl (s.readReg r) s.f.c))

/-- RL (HL) (48 R489). -/
def execRlAtHL (s : State) : StepOutcome := .next (s.shiftMem s.hl (rl s.atHL s.f.c))

/-- RL (IX+d) (48 R490). -/
def execRlAtIX (d : Byte) (s : State) : StepOutcome := .next (s.shiftMem (s.addrIX d) (rl (s.atIX d) s.f.c))

/-- RL (IY+d) (48 R491). -/
def execRlAtIY (d : Byte) (s : State) : StepOutcome := .next (s.shiftMem (s.addrIY d) (rl (s.atIY d) s.f.c))

/-! ## RRC -/

/-- RRC r (48 R504). -/
def execRrcR (r : Reg) (s : State) : StepOutcome := .next (s.shiftReg r (rrc (s.readReg r)))

/-- RRC (HL) (48 R505). -/
def execRrcAtHL (s : State) : StepOutcome := .next (s.shiftMem s.hl (rrc s.atHL))

/-- RRC (IX+d) (48 R506). -/
def execRrcAtIX (d : Byte) (s : State) : StepOutcome := .next (s.shiftMem (s.addrIX d) (rrc (s.atIX d)))

/-- RRC (IY+d) (48 R507). -/
def execRrcAtIY (d : Byte) (s : State) : StepOutcome := .next (s.shiftMem (s.addrIY d) (rrc (s.atIY d)))

/-! ## RR -/

/-- RR r (48 R499). -/
def execRrR (r : Reg) (s : State) : StepOutcome := .next (s.shiftReg r (rr (s.readReg r) s.f.c))

/-- RR (HL) (48 R500). -/
def execRrAtHL (s : State) : StepOutcome := .next (s.shiftMem s.hl (rr s.atHL s.f.c))

/-- RR (IX+d) (48 R501). -/
def execRrAtIX (d : Byte) (s : State) : StepOutcome := .next (s.shiftMem (s.addrIX d) (rr (s.atIX d) s.f.c))

/-- RR (IY+d) (48 R502). -/
def execRrAtIY (d : Byte) (s : State) : StepOutcome := .next (s.shiftMem (s.addrIY d) (rr (s.atIY d) s.f.c))

/-! ## SLA -/

/-- SLA r (49 R551). -/
def execSlaR (r : Reg) (s : State) : StepOutcome := .next (s.shiftReg r (sla (s.readReg r)))

/-- SLA (HL) (49 R552). -/
def execSlaAtHL (s : State) : StepOutcome := .next (s.shiftMem s.hl (sla s.atHL))

/-- SLA (IX+d) (49 R553). -/
def execSlaAtIX (d : Byte) (s : State) : StepOutcome := .next (s.shiftMem (s.addrIX d) (sla (s.atIX d)))

/-- SLA (IY+d) (49 R554). -/
def execSlaAtIY (d : Byte) (s : State) : StepOutcome := .next (s.shiftMem (s.addrIY d) (sla (s.atIY d)))

/-! ## SRA -/

/-- SRA r (49 R555). -/
def execSraR (r : Reg) (s : State) : StepOutcome := .next (s.shiftReg r (sra (s.readReg r)))

/-- SRA (HL) (49 R556). -/
def execSraAtHL (s : State) : StepOutcome := .next (s.shiftMem s.hl (sra s.atHL))

/-- SRA (IX+d) (49 R557). -/
def execSraAtIX (d : Byte) (s : State) : StepOutcome := .next (s.shiftMem (s.addrIX d) (sra (s.atIX d)))

/-- SRA (IY+d) (49 R558). -/
def execSraAtIY (d : Byte) (s : State) : StepOutcome := .next (s.shiftMem (s.addrIY d) (sra (s.atIY d)))

/-! ## SRL -/

/-- SRL r (49 R559). -/
def execSrlR (r : Reg) (s : State) : StepOutcome := .next (s.shiftReg r (srl (s.readReg r)))

/-- SRL (HL) (49 R560). -/
def execSrlAtHL (s : State) : StepOutcome := .next (s.shiftMem s.hl (srl s.atHL))

/-- SRL (IX+d) (49 R561). -/
def execSrlAtIX (d : Byte) (s : State) : StepOutcome := .next (s.shiftMem (s.addrIX d) (srl (s.atIX d)))

/-- SRL (IY+d) (49 R562). -/
def execSrlAtIY (d : Byte) (s : State) : StepOutcome := .next (s.shiftMem (s.addrIY d) (srl (s.atIY d)))

/-! ## RLD and RRD -/

/-- The end of RLD and RRD: the memory byte and A are written and the flags come from the new A (48 R498, R509). -/
def State.acceptDigit (s : State) (m a : Byte) : State :=
  ({ s with a := a }.write8 s.hl m).storeFlags
    { s := a.msb, z := isZero a, h := false, pv := parity a, n := false, c := s.f.c }

/-- RLD (48 R498). -/
def execRld (s : State) : StepOutcome :=
  let m := s.atHL
  .next (s.acceptDigit (loNibble m ++ loNibble s.a) (hiNibble s.a ++ hiNibble m))

/-- RRD (48 R509). -/
def execRrd (s : State) : StepOutcome :=
  let m := s.atHL
  .next (s.acceptDigit (loNibble s.a ++ hiNibble m) (hiNibble s.a ++ loNibble m))

end Sys2Proof.Machine
end

