-- ==== Sys2Proof/Machine/Dispatch.lean ====
section
/-! DEFINITION. One arm for each instruction: its meaning. -/

namespace Sys2Proof.Machine

def exec (i : Instr) (s : State) : Host.Outcome State Fault Refusal :=
  match i with
  | .adcHLSs ss => Sys2Proof.Machine.execAdcHLSs ss s
  | .adcAR r => Sys2Proof.Machine.execAdcAR r s
  | .adcAN n => Sys2Proof.Machine.execAdcAN n s
  | .adcAAtHL => Sys2Proof.Machine.execAdcAAtHL s
  | .adcAAtIX d => Sys2Proof.Machine.execAdcAAtIX d s
  | .adcAAtIY d => Sys2Proof.Machine.execAdcAAtIY d s
  | .addAN n => Sys2Proof.Machine.execAddAN n s
  | .addAR r => Sys2Proof.Machine.execAddAR r s
  | .addAAtHL => Sys2Proof.Machine.execAddAAtHL s
  | .addAAtIX d => Sys2Proof.Machine.execAddAAtIX d s
  | .addAAtIY d => Sys2Proof.Machine.execAddAAtIY d s
  | .addHLSs ss => Sys2Proof.Machine.execAddHLSs ss s
  | .addIXPp pp => Sys2Proof.Machine.execAddIXPp pp s
  | .addIYRr rr => Sys2Proof.Machine.execAddIYRr rr s
  | .andR r => Sys2Proof.Machine.execAndR r s
  | .andN n => Sys2Proof.Machine.execAndN n s
  | .andAtHL => Sys2Proof.Machine.execAndAtHL s
  | .andAtIX d => Sys2Proof.Machine.execAndAtIX d s
  | .andAtIY d => Sys2Proof.Machine.execAndAtIY d s
  | .bitBAtHL b => Sys2Proof.Machine.execBitBAtHL b s
  | .bitBAtIX b d => Sys2Proof.Machine.execBitBAtIX b d s
  | .bitBAtIY b d => Sys2Proof.Machine.execBitBAtIY b d s
  | .bitBR b r => Sys2Proof.Machine.execBitBR b r s
  | .callCcNN cc nn => Sys2Proof.Machine.execCallCcNN cc nn s
  | .callNN nn => Sys2Proof.Machine.execCallNN nn s
  | .ccf => Sys2Proof.Machine.execCcf s
  | .cpR r => Sys2Proof.Machine.execCpR r s
  | .cpN n => Sys2Proof.Machine.execCpN n s
  | .cpAtHL => Sys2Proof.Machine.execCpAtHL s
  | .cpAtIX d => Sys2Proof.Machine.execCpAtIX d s
  | .cpAtIY d => Sys2Proof.Machine.execCpAtIY d s
  | .cpd => Sys2Proof.Machine.execCpd s
  | .cpdr => Sys2Proof.Machine.execCpdr s
  | .cpi => Sys2Proof.Machine.execCpi s
  | .cpir => Sys2Proof.Machine.execCpir s
  | .cpl => Sys2Proof.Machine.execCpl s
  | .daa => Sys2Proof.Machine.execDaa s
  | .decR r => Sys2Proof.Machine.execDecR r s
  | .decAtHL => Sys2Proof.Machine.execDecAtHL s
  | .decAtIX d => Sys2Proof.Machine.execDecAtIX d s
  | .decAtIY d => Sys2Proof.Machine.execDecAtIY d s
  | .decIX => Sys2Proof.Machine.execDecIX s
  | .decIY => Sys2Proof.Machine.execDecIY s
  | .decSs ss => Sys2Proof.Machine.execDecSs ss s
  | .di => Sys2Proof.Machine.execDi s
  | .djnz disp => Sys2Proof.Machine.execDjnz disp s
  | .ei => Sys2Proof.Machine.execEi s
  | .exAtSPHL => Sys2Proof.Machine.execExAtSPHL s
  | .exAtSPIX => Sys2Proof.Machine.execExAtSPIX s
  | .exAtSPIY => Sys2Proof.Machine.execExAtSPIY s
  | .exAFAF => Sys2Proof.Machine.execExAFAF s
  | .exDEHL => Sys2Proof.Machine.execExDEHL s
  | .exx => Sys2Proof.Machine.execExx s
  | .halt => Sys2Proof.Machine.execHalt s
  | .im0 => Sys2Proof.Machine.execIm0 s
  | .im1 => Sys2Proof.Machine.execIm1 s
  | .im2 => Sys2Proof.Machine.execIm2 s
  | .inAN n => Sys2Proof.Machine.execInAN n s
  | .inRC r => Sys2Proof.Machine.execInRC r s
  | .incAtHL => Sys2Proof.Machine.execIncAtHL s
  | .incIX => Sys2Proof.Machine.execIncIX s
  | .incAtIX d => Sys2Proof.Machine.execIncAtIX d s
  | .incIY => Sys2Proof.Machine.execIncIY s
  | .incAtIY d => Sys2Proof.Machine.execIncAtIY d s
  | .incR r => Sys2Proof.Machine.execIncR r s
  | .incSs ss => Sys2Proof.Machine.execIncSs ss s
  | .ind => Sys2Proof.Machine.execInd s
  | .indr => Sys2Proof.Machine.execIndr s
  | .ini => Sys2Proof.Machine.execIni s
  | .inir => Sys2Proof.Machine.execInir s
  | .jpHL => Sys2Proof.Machine.execJpHL s
  | .jpIX => Sys2Proof.Machine.execJpIX s
  | .jpIY => Sys2Proof.Machine.execJpIY s
  | .jpCcNN cc nn => Sys2Proof.Machine.execJpCcNN cc nn s
  | .jpNN nn => Sys2Proof.Machine.execJpNN nn s
  | .jr disp => Sys2Proof.Machine.execJr disp s
  | .jrC disp => Sys2Proof.Machine.execJrC disp s
  | .jrNC disp => Sys2Proof.Machine.execJrNC disp s
  | .jrNZ disp => Sys2Proof.Machine.execJrNZ disp s
  | .jrZ disp => Sys2Proof.Machine.execJrZ disp s
  | .ldAAtBC => Sys2Proof.Machine.execLdAAtBC s
  | .ldAAtDE => Sys2Proof.Machine.execLdAAtDE s
  | .ldAI => Sys2Proof.Machine.execLdAI s
  | .ldAAtNN nn => Sys2Proof.Machine.execLdAAtNN nn s
  | .ldARefresh => Sys2Proof.Machine.execLdARefresh s
  | .ldAtBCA => Sys2Proof.Machine.execLdAtBCA s
  | .ldAtDEA => Sys2Proof.Machine.execLdAtDEA s
  | .ldAtHLN n => Sys2Proof.Machine.execLdAtHLN n s
  | .ldDdNN dd nn => Sys2Proof.Machine.execLdDdNN dd nn s
  | .ldDdAtNN dd nn => Sys2Proof.Machine.execLdDdAtNN dd nn s
  | .ldHLAtNN nn => Sys2Proof.Machine.execLdHLAtNN nn s
  | .ldAtHLR r => Sys2Proof.Machine.execLdAtHLR r s
  | .ldIA => Sys2Proof.Machine.execLdIA s
  | .ldIXNN nn => Sys2Proof.Machine.execLdIXNN nn s
  | .ldIXAtNN nn => Sys2Proof.Machine.execLdIXAtNN nn s
  | .ldAtIXN d n => Sys2Proof.Machine.execLdAtIXN d n s
  | .ldAtIXR d r => Sys2Proof.Machine.execLdAtIXR d r s
  | .ldIYNN nn => Sys2Proof.Machine.execLdIYNN nn s
  | .ldIYAtNN nn => Sys2Proof.Machine.execLdIYAtNN nn s
  | .ldAtIYN d n => Sys2Proof.Machine.execLdAtIYN d n s
  | .ldAtIYR d r => Sys2Proof.Machine.execLdAtIYR d r s
  | .ldAtNNA nn => Sys2Proof.Machine.execLdAtNNA nn s
  | .ldAtNNDd nn dd => Sys2Proof.Machine.execLdAtNNDd nn dd s
  | .ldAtNNHL nn => Sys2Proof.Machine.execLdAtNNHL nn s
  | .ldAtNNIX nn => Sys2Proof.Machine.execLdAtNNIX nn s
  | .ldAtNNIY nn => Sys2Proof.Machine.execLdAtNNIY nn s
  | .ldRefreshA => Sys2Proof.Machine.execLdRefreshA s
  | .ldRAtHL r => Sys2Proof.Machine.execLdRAtHL r s
  | .ldRAtIX r d => Sys2Proof.Machine.execLdRAtIX r d s
  | .ldRAtIY r d => Sys2Proof.Machine.execLdRAtIY r d s
  | .ldRN r n => Sys2Proof.Machine.execLdRN r n s
  | .ldRR r r' => Sys2Proof.Machine.execLdRR r r' s
  | .ldSPHL => Sys2Proof.Machine.execLdSPHL s
  | .ldSPIX => Sys2Proof.Machine.execLdSPIX s
  | .ldSPIY => Sys2Proof.Machine.execLdSPIY s
  | .ldd => Sys2Proof.Machine.execLdd s
  | .lddr => Sys2Proof.Machine.execLddr s
  | .ldi => Sys2Proof.Machine.execLdi s
  | .ldir => Sys2Proof.Machine.execLdir s
  | .neg => Sys2Proof.Machine.execNeg s
  | .nop => Sys2Proof.Machine.execNop s
  | .orR r => Sys2Proof.Machine.execOrR r s
  | .orN n => Sys2Proof.Machine.execOrN n s
  | .orAtHL => Sys2Proof.Machine.execOrAtHL s
  | .orAtIX d => Sys2Proof.Machine.execOrAtIX d s
  | .orAtIY d => Sys2Proof.Machine.execOrAtIY d s
  | .otdr => Sys2Proof.Machine.execOtdr s
  | .otir => Sys2Proof.Machine.execOtir s
  | .outCR r => Sys2Proof.Machine.execOutCR r s
  | .outNA n => Sys2Proof.Machine.execOutNA n s
  | .outd => Sys2Proof.Machine.execOutd s
  | .outi => Sys2Proof.Machine.execOuti s
  | .popIX => Sys2Proof.Machine.execPopIX s
  | .popIY => Sys2Proof.Machine.execPopIY s
  | .popQq qq => Sys2Proof.Machine.execPopQq qq s
  | .pushIX => Sys2Proof.Machine.execPushIX s
  | .pushIY => Sys2Proof.Machine.execPushIY s
  | .pushQq qq => Sys2Proof.Machine.execPushQq qq s
  | .resBR b r => Sys2Proof.Machine.execResBR b r s
  | .resBAtHL b => Sys2Proof.Machine.execResBAtHL b s
  | .resBAtIX b d => Sys2Proof.Machine.execResBAtIX b d s
  | .resBAtIY b d => Sys2Proof.Machine.execResBAtIY b d s
  | .ret => Sys2Proof.Machine.execRet s
  | .retCc cc => Sys2Proof.Machine.execRetCc cc s
  | .reti => Sys2Proof.Machine.execReti s
  | .retn => Sys2Proof.Machine.execRetn s
  | .rlR r => Sys2Proof.Machine.execRlR r s
  | .rlAtHL => Sys2Proof.Machine.execRlAtHL s
  | .rlAtIX d => Sys2Proof.Machine.execRlAtIX d s
  | .rlAtIY d => Sys2Proof.Machine.execRlAtIY d s
  | .rla => Sys2Proof.Machine.execRla s
  | .rlcAtHL => Sys2Proof.Machine.execRlcAtHL s
  | .rlcAtIX d => Sys2Proof.Machine.execRlcAtIX d s
  | .rlcAtIY d => Sys2Proof.Machine.execRlcAtIY d s
  | .rlcR r => Sys2Proof.Machine.execRlcR r s
  | .rlca => Sys2Proof.Machine.execRlca s
  | .rld => Sys2Proof.Machine.execRld s
  | .rrR r => Sys2Proof.Machine.execRrR r s
  | .rrAtHL => Sys2Proof.Machine.execRrAtHL s
  | .rrAtIX d => Sys2Proof.Machine.execRrAtIX d s
  | .rrAtIY d => Sys2Proof.Machine.execRrAtIY d s
  | .rra => Sys2Proof.Machine.execRra s
  | .rrcR r => Sys2Proof.Machine.execRrcR r s
  | .rrcAtHL => Sys2Proof.Machine.execRrcAtHL s
  | .rrcAtIX d => Sys2Proof.Machine.execRrcAtIX d s
  | .rrcAtIY d => Sys2Proof.Machine.execRrcAtIY d s
  | .rrca => Sys2Proof.Machine.execRrca s
  | .rrd => Sys2Proof.Machine.execRrd s
  | .rst p => Sys2Proof.Machine.execRst p s
  | .sbcAR r => Sys2Proof.Machine.execSbcAR r s
  | .sbcAN n => Sys2Proof.Machine.execSbcAN n s
  | .sbcAAtHL => Sys2Proof.Machine.execSbcAAtHL s
  | .sbcAAtIX d => Sys2Proof.Machine.execSbcAAtIX d s
  | .sbcAAtIY d => Sys2Proof.Machine.execSbcAAtIY d s
  | .sbcHLSs ss => Sys2Proof.Machine.execSbcHLSs ss s
  | .scf => Sys2Proof.Machine.execScf s
  | .setBAtHL b => Sys2Proof.Machine.execSetBAtHL b s
  | .setBAtIX b d => Sys2Proof.Machine.execSetBAtIX b d s
  | .setBAtIY b d => Sys2Proof.Machine.execSetBAtIY b d s
  | .setBR b r => Sys2Proof.Machine.execSetBR b r s
  | .slaR r => Sys2Proof.Machine.execSlaR r s
  | .slaAtHL => Sys2Proof.Machine.execSlaAtHL s
  | .slaAtIX d => Sys2Proof.Machine.execSlaAtIX d s
  | .slaAtIY d => Sys2Proof.Machine.execSlaAtIY d s
  | .sraR r => Sys2Proof.Machine.execSraR r s
  | .sraAtHL => Sys2Proof.Machine.execSraAtHL s
  | .sraAtIX d => Sys2Proof.Machine.execSraAtIX d s
  | .sraAtIY d => Sys2Proof.Machine.execSraAtIY d s
  | .srlR r => Sys2Proof.Machine.execSrlR r s
  | .srlAtHL => Sys2Proof.Machine.execSrlAtHL s
  | .srlAtIX d => Sys2Proof.Machine.execSrlAtIX d s
  | .srlAtIY d => Sys2Proof.Machine.execSrlAtIY d s
  | .subR r => Sys2Proof.Machine.execSubR r s
  | .subN n => Sys2Proof.Machine.execSubN n s
  | .subAtHL => Sys2Proof.Machine.execSubAtHL s
  | .subAtIX d => Sys2Proof.Machine.execSubAtIX d s
  | .subAtIY d => Sys2Proof.Machine.execSubAtIY d s
  | .xorR r => Sys2Proof.Machine.execXorR r s
  | .xorN n => Sys2Proof.Machine.execXorN n s
  | .xorAtHL => Sys2Proof.Machine.execXorAtHL s
  | .xorAtIX d => Sys2Proof.Machine.execXorAtIX d s
  | .xorAtIY d => Sys2Proof.Machine.execXorAtIY d s

end Sys2Proof.Machine
end

