-- ==== Sys2Proof/Machine/Boundary.lean ====
section
/-! DEFINITION. What happens at a boundary between two instructions (60_exceptions.md R603): fetching and running one
instruction, the idle step of the halt state, the acceptance of interrupts, and the choice among them. -/

namespace Sys2Proof.Machine

/-- The stop at an encoding the spec does not define, as `UNDEF_OPCODE` says (30_encoding.md R135). -/
def stopUndefined (p : UndefOpcode) (bytes : List Byte) : StepOutcome :=
  match p with
  | .refuse => .refused (.undefinedEncoding bytes)
  | .fault => .fault (.undefinedEncoding bytes)

/-- The bytes a decoding error names. -/
def errorBytes : DecodeError → List Byte
  | .truncated => []
  | .undefinedEncoding bytes => bytes

/-- Let R advance after an instruction that gave a next state (10_state.md R54). -/
def finishInstr (i : Instr) : StepOutcome → StepOutcome
  | .next t => .next (t.advanceRFor i)
  | .fault e => .fault e
  | .refused e => .refused e

/-- The state in which a fetched instruction's meaning runs: PC is already `next`, the hold-off of EI is over, and the
free values move on (10_state.md R46; 60_exceptions.md R603). Log entry 27. -/
def State.afterFetch (s : State) (i : Instr) : State :=
  { s with pc := s.pc + BitVec.ofNat 16 i.length, eiShadow := false, free := s.free + 1 }

/-- Run the instruction a decoder found, in the state its meaning is to run in. -/
def runDecoded (s : State) (start : Instr → State) : DecodeResult → StepOutcome
  | .ok (i, _) => finishInstr i (exec i (start i))
  | .error e => stopUndefined s.params.undefOpcode (errorBytes e)

/-- Fetch, decode and execute one instruction at PC (60_exceptions.md R603). -/
def fetchExecute (s : State) : StepOutcome :=
  runDecoded s s.afterFetch (decode s.fetchBytes)

/-- One idle step of the halt state: only R advances, as for a NOP (60_exceptions.md R603, R619; 10_state.md R58). -/
def State.idle (s : State) : State :=
  { s with eiShadow := false }.advanceR (some .nop)

/-- The mode 0 response: the supplied instruction runs by its ordinary rule and PC is not advanced (60_exceptions.md
R607). Log entry 12. -/
def respondMode0 (s : State) (bytes : List Byte) : StepOutcome :=
  runDecoded s (fun _ => { s with free := s.free + 5 }) (decode (s.suppliedBytes bytes))

/-- Acceptance of a maskable interrupt with the bytes the device supplies (60_exceptions.md R606 to R609). -/
def acceptInt (s : State) (bytes : List Byte) : StepOutcome :=
  let s1 := s.acceptIntCommon
  match s.im with
  | .im0 => respondMode0 s1 bytes
  | .im1 => .next (s1.respondMode1.advanceR none)
  | .im2 => .next ((s1.drawn.respondMode2 (s1.suppliedVector bytes)).advanceR none)

/-- A boundary with no interrupt to accept: the idle step of the halt state, or one instruction. -/
def proceed (s : State) : StepOutcome :=
  if s.halted then .next s.idle else fetchExecute s

/-- The environment's requests at the coming boundary; none when it has said nothing. Log entry 9. -/
def State.boundaryInput (s : State) : BoundaryInput :=
  match s.inputs with
  | x :: _ => x
  | [] => BoundaryInput.quiet

/-- The state once the boundary's requests are looked at: they are used up, and a non-maskable request is latched
(60_exceptions.md R602). -/
def State.afterSampling (s : State) : State :=
  { s with inputs := s.inputs.tail, nmiPending := s.nmiPending || s.boundaryInput.nmi }

/-- Whether a maskable request is accepted (60_exceptions.md R602, R603). -/
def State.intEnabled (s : State) : Bool := s.iff1 && !s.eiShadow

/-- The choice at a boundary once the requests are sampled: reset, then NMI, then INT, then the program
(60_exceptions.md R603, R605). -/
def boundary (s : State) (x : BoundaryInput) : StepOutcome :=
  if x.reset then .next s.resetCpu
  else if s.nmiPending then .next (s.acceptNmi.advanceR none)
  else
    match x.int with
    | some bytes => if s.intEnabled then acceptInt s bytes else proceed s
    | none => proceed s

/-- `s` with nothing that would keep the coming step from fetching: not halted, no request at the coming boundary.
Log entry 15. -/
def State.readyToFetch (s : State) : State :=
  { s with
    halted := false, nmiPending := false
    inputs :=
      match s.inputs with
      | [] => []
      | _ :: rest => BoundaryInput.quiet :: rest }

/-- One step of the machine (60_exceptions.md R603). -/
def oneStep (s : State) : StepOutcome := boundary s.afterSampling s.boundaryInput

end Sys2Proof.Machine
end

