-- ==== Sys2Proof/Machine/Step.lean ====
section
/-! DEFINITION. The step of the machine, and how an instruction is placed where the next step fetches it. -/

namespace Sys2Proof.Machine

/-- One step (60_exceptions.md R603). -/
def step (s : State) : Host.Outcome State Fault Refusal := oneStep s

/-- `s` with the bytes of an instruction, numbered as opcode_table.json numbers it, at PC, and ready to fetch it in the
very next step. Log entries 14 and 15. -/
def State.withFetchWord (s : State) (nbits w : Nat) : State :=
  { s.readyToFetch with mem := Memory.load s.mem s.pc (tableWordBytes nbits w) }

end Sys2Proof.Machine
end

