-- ==== Sys2Proof/Machine/Timing.lean ====
section
/-! DEFINITION. The timing table of 70_reset_and_hazards.md R661 as data: information that no rule and no step of the
model depends on (00_scope.md R3; 70 R660). Log entry 16. -/

namespace Sys2Proof.Machine

/-- The lengths in T states of the M cycles of an instruction; where the spec gives two figures, `cycles` is the first
one (the condition holds, or the block instruction repeats) and `cyclesOtherwise` the second (70 R661). -/
structure Timing where
  cycles : List Nat
  cyclesOtherwise : Option (List Nat)
  deriving DecidableEq, Repr

/-- The timing of each instruction (70 R661). -/
def timing : Instr → Timing
  | .adcHLSs _ | .addIXPp _ | .addIYRr _ | .resBAtHL _ | .rlAtHL | .rlcAtHL | .rrAtHL | .rrcAtHL
  | .sbcHLSs _ | .setBAtHL _ | .slaAtHL | .sraAtHL | .srlAtHL =>
    ⟨[4, 4, 4, 3], none⟩
  | .adcAR _ | .addAR _ | .andR _ | .ccf | .cpR _ | .cpl | .daa | .decR _ | .di | .ei | .exAFAF
  | .exDEHL | .exx | .halt | .incR _ | .jpHL | .ldRR _ _ | .nop | .orR _ | .rla | .rlca | .rra
  | .rrca | .sbcAR _ | .scf | .subR _ | .xorR _ =>
    ⟨[4], none⟩
  | .adcAN _ | .adcAAtHL | .addAN _ | .addAAtHL | .andN _ | .andAtHL | .cpN _ | .cpAtHL | .ldAAtBC
  | .ldAAtDE | .ldAtBCA | .ldAtDEA | .ldAtHLR _ | .ldRAtHL _ | .ldRN _ _ | .orN _ | .orAtHL
  | .sbcAN _ | .sbcAAtHL | .subN _ | .subAtHL | .xorN _ | .xorAtHL =>
    ⟨[4, 3], none⟩
  | .adcAAtIX _ | .adcAAtIY _ | .addAAtIX _ | .addAAtIY _ | .andAtIX _ | .andAtIY _ | .cpAtIX _
  | .cpAtIY _ | .ldAtIXN _ _ | .ldAtIXR _ _ | .ldAtIYN _ _ | .ldAtIYR _ _ | .ldRAtIX _ _
  | .ldRAtIY _ _ | .orAtIX _ | .orAtIY _ | .sbcAAtIX _ | .sbcAAtIY _ | .subAtIX _ | .subAtIY _
  | .xorAtIX _ | .xorAtIY _ =>
    ⟨[4, 4, 3, 5, 3], none⟩
  | .addHLSs _ | .decAtHL | .incAtHL =>
    ⟨[4, 4, 3], none⟩
  | .bitBAtHL _ | .inRC _ | .outCR _ =>
    ⟨[4, 4, 4], none⟩
  | .bitBAtIX _ _ | .bitBAtIY _ _ =>
    ⟨[4, 4, 3, 5, 4], none⟩
  | .bitBR _ _ | .im0 | .im1 | .im2 | .jpIX | .jpIY | .neg | .resBR _ _ | .rlR _ | .rlcR _ | .rrR _
  | .rrcR _ | .setBR _ _ | .slaR _ | .sraR _ | .srlR _ =>
    ⟨[4, 4], none⟩
  | .callCcNN _ _ =>
    ⟨[4, 3, 4, 3, 3], some [4, 3, 3]⟩
  | .callNN _ =>
    ⟨[4, 3, 4, 3, 3], none⟩
  | .cpd | .cpi | .ldd | .ldi =>
    ⟨[4, 4, 3, 5], none⟩
  | .cpdr | .cpir | .lddr | .ldir =>
    ⟨[4, 4, 3, 5, 5], some [4, 4, 3, 5]⟩
  | .decAtIX _ | .decAtIY _ | .incAtIX _ | .incAtIY _ | .resBAtIX _ _ | .resBAtIY _ _ | .rlAtIX _
  | .rlAtIY _ | .rlcAtIX _ | .rlcAtIY _ | .rrAtIX _ | .rrAtIY _ | .rrcAtIX _ | .rrcAtIY _
  | .setBAtIX _ _ | .setBAtIY _ _ | .slaAtIX _ | .slaAtIY _ | .sraAtIX _ | .sraAtIY _ | .srlAtIX _
  | .srlAtIY _ =>
    ⟨[4, 4, 3, 5, 4, 3], none⟩
  | .decIX | .decIY | .incIX | .incIY | .ldSPIX | .ldSPIY =>
    ⟨[4, 6], none⟩
  | .decSs _ | .incSs _ | .ldSPHL =>
    ⟨[6], none⟩
  | .djnz _ =>
    ⟨[5, 3, 5], some [5, 3]⟩
  | .exAtSPHL =>
    ⟨[4, 3, 4, 3, 5], none⟩
  | .exAtSPIX | .exAtSPIY =>
    ⟨[4, 4, 3, 4, 3, 5], none⟩
  | .inAN _ | .outNA _ =>
    ⟨[4, 3, 4], none⟩
  | .ind | .ini | .outd | .outi =>
    ⟨[4, 5, 3, 4], none⟩
  | .indr | .inir | .otdr | .otir =>
    ⟨[4, 5, 3, 4, 5], some [4, 5, 3, 4]⟩
  | .jpCcNN _ _ | .jpNN _ | .ldAtHLN _ | .ldDdNN _ _ | .popQq _ | .ret =>
    ⟨[4, 3, 3], none⟩
  | .jr _ =>
    ⟨[4, 3, 5], none⟩
  | .jrC _ | .jrNC _ | .jrNZ _ | .jrZ _ =>
    ⟨[4, 3, 5], some [4, 3]⟩
  | .ldAI | .ldARefresh | .ldIA | .ldRefreshA =>
    ⟨[4, 5], none⟩
  | .ldAAtNN _ | .ldAtNNA _ =>
    ⟨[4, 3, 3, 3], none⟩
  | .ldDdAtNN _ _ | .ldIXAtNN _ | .ldIYAtNN _ | .ldAtNNDd _ _ | .ldAtNNIX _ | .ldAtNNIY _ =>
    ⟨[4, 4, 3, 3, 3, 3], none⟩
  | .ldHLAtNN _ | .ldAtNNHL _ =>
    ⟨[4, 3, 3, 3, 3], none⟩
  | .ldIXNN _ | .ldIYNN _ | .popIX | .popIY | .reti | .retn =>
    ⟨[4, 4, 3, 3], none⟩
  | .pushIX | .pushIY =>
    ⟨[4, 5, 3, 3], none⟩
  | .pushQq _ | .rst _ =>
    ⟨[5, 3, 3], none⟩
  | .retCc _ =>
    ⟨[5, 3, 3], some [5]⟩
  | .rld | .rrd =>
    ⟨[4, 4, 3, 4, 3], none⟩

/-- Whether the first figure applies to an instruction run in a state (70 R661). -/
def firstFigure (s : State) : Instr → Bool
  | .callCcNN cc _ => condHolds s.f cc
  | .cpdr => s.searchGoesOn
  | .cpir => s.searchGoesOn
  | .djnz _ => !isZero (s.b - 1#8)
  | .indr => !isZero (s.b - 1#8)
  | .inir => !isZero (s.b - 1#8)
  | .jrC _ => s.f.c
  | .jrNC _ => !s.f.c
  | .jrNZ _ => !s.f.z
  | .jrZ _ => s.f.z
  | .lddr => !isZero (s.bc - 1#16)
  | .ldir => !isZero (s.bc - 1#16)
  | .otdr => !isZero (s.b - 1#8)
  | .otir => !isZero (s.b - 1#8)
  | .retCc cc => condHolds s.f cc
  | .adcHLSs _ | .adcAR _ | .adcAN _ | .adcAAtHL | .adcAAtIX _ | .adcAAtIY _ | .addAN _ | .addAR _
  | .addAAtHL | .addAAtIX _ | .addAAtIY _ | .addHLSs _ | .addIXPp _ | .addIYRr _ | .andR _ | .andN _
  | .andAtHL | .andAtIX _ | .andAtIY _ | .bitBAtHL _ | .bitBAtIX _ _ | .bitBAtIY _ _ | .bitBR _ _ | .callNN _
  | .ccf | .cpR _ | .cpN _ | .cpAtHL | .cpAtIX _ | .cpAtIY _ | .cpd | .cpi | .cpl | .daa | .decR _ | .decAtHL
  | .decAtIX _ | .decAtIY _ | .decIX | .decIY | .decSs _ | .di | .ei | .exAtSPHL | .exAtSPIX | .exAtSPIY
  | .exAFAF | .exDEHL | .exx | .halt | .im0 | .im1 | .im2 | .inAN _ | .inRC _ | .incAtHL | .incIX
  | .incAtIX _ | .incIY | .incAtIY _ | .incR _ | .incSs _ | .ind | .ini | .jpHL | .jpIX | .jpIY | .jpCcNN _ _
  | .jpNN _ | .jr _ | .ldAAtBC | .ldAAtDE | .ldAI | .ldAAtNN _ | .ldARefresh | .ldAtBCA | .ldAtDEA
  | .ldAtHLN _ | .ldDdNN _ _ | .ldDdAtNN _ _ | .ldHLAtNN _ | .ldAtHLR _ | .ldIA | .ldIXNN _ | .ldIXAtNN _
  | .ldAtIXN _ _ | .ldAtIXR _ _ | .ldIYNN _ | .ldIYAtNN _ | .ldAtIYN _ _ | .ldAtIYR _ _ | .ldAtNNA _
  | .ldAtNNDd _ _ | .ldAtNNHL _ | .ldAtNNIX _ | .ldAtNNIY _ | .ldRefreshA | .ldRAtHL _ | .ldRAtIX _ _
  | .ldRAtIY _ _ | .ldRN _ _ | .ldRR _ _ | .ldSPHL | .ldSPIX | .ldSPIY | .ldd | .ldi | .neg | .nop | .orR _
  | .orN _ | .orAtHL | .orAtIX _ | .orAtIY _ | .outCR _ | .outNA _ | .outd | .outi | .popIX | .popIY
  | .popQq _ | .pushIX | .pushIY | .pushQq _ | .resBR _ _ | .resBAtHL _ | .resBAtIX _ _ | .resBAtIY _ _
  | .ret | .reti | .retn | .rlR _ | .rlAtHL | .rlAtIX _ | .rlAtIY _ | .rla | .rlcAtHL | .rlcAtIX _
  | .rlcAtIY _ | .rlcR _ | .rlca | .rld | .rrR _ | .rrAtHL | .rrAtIX _ | .rrAtIY _ | .rra | .rrcR _
  | .rrcAtHL | .rrcAtIX _ | .rrcAtIY _ | .rrca | .rrd | .rst _ | .sbcAR _ | .sbcAN _ | .sbcAAtHL
  | .sbcAAtIX _ | .sbcAAtIY _ | .sbcHLSs _ | .scf | .setBAtHL _ | .setBAtIX _ _ | .setBAtIY _ _ | .setBR _ _
  | .slaR _ | .slaAtHL | .slaAtIX _ | .slaAtIY _ | .sraR _ | .sraAtHL | .sraAtIX _ | .sraAtIY _ | .srlR _
  | .srlAtHL | .srlAtIX _ | .srlAtIY _ | .subR _ | .subN _ | .subAtHL | .subAtIX _ | .subAtIY _ | .xorR _
  | .xorN _ | .xorAtHL | .xorAtIX _ | .xorAtIY _ => true

/-- The M cycle lengths of an instruction run in a state (70 R661). -/
def mCycles (i : Instr) (s : State) : List Nat :=
  match (timing i).cyclesOtherwise with
  | none => (timing i).cycles
  | some other => if firstFigure s i then (timing i).cycles else other

/-- The T states of an instruction run in a state: the sum of its M cycles (70 R660, R661). -/
def tStates (i : Instr) (s : State) : Nat := (mCycles i s).sum

/-- The time of a number of T states, in microseconds: what a host gets that divides by `CLOCK_HZ` (70 R660). -/
def microseconds (p : Params) (t : Nat) : Rat := (t * 1000000 : Rat) / p.clockHz

end Sys2Proof.Machine
end

