-- ==== Sys2Proof/Safety.lean ====
section
/-! DEFINITION. The terms the claims are stated in: the invariant of the machine, the byte memory holds, what a store
does, and the part of a state an instruction leaves alone. -/

namespace Sys2Proof.Machine

/-- The byte memory holds at an address, whatever the memory map says of reading it. -/
def State.held (s : State) (x : Word) : Byte := Memory.read s.mem x.toNat

/-- The invariant of the machine: memory is in canonical form; maskable interrupts are enabled only if the second
flip-flop says so too (10_state.md R55); and the hold-off of EI stands only behind an EI, so with interrupts enabled
and the CPU running (10_state.md R58, R59). -/
structure State.Inv (s : State) : Prop where
  memory : Memory.wf s.mem = true
  enabled : s.iff1 = true → s.iff2 = true
  holdOff : s.eiShadow = true → s.iff1 = true ∧ s.halted = false

/-- From `s` to `t` exactly the byte `v` is stored at `addr`: RAM takes it, ROM and unmapped addresses ignore it, and
every other byte stays (20_memory.md R84, R85). -/
def StoresByte (s t : State) (addr : Word) (v : Byte) : Prop :=
  (s.kindAt addr = .ram → t.held addr = v) ∧
  (s.kindAt addr ≠ .ram → t.held addr = s.held addr) ∧
  ∀ x, x ≠ addr → t.held x = s.held x

/-- From `s` to `t` exactly the word `v` is stored, low byte at `addr` and high byte at the next address
(20_memory.md R84, R87). -/
def StoresWord (s t : State) (addr : Word) (v : Word) : Prop :=
  (s.kindAt addr = .ram → t.held addr = loByte v) ∧
  (s.kindAt addr ≠ .ram → t.held addr = s.held addr) ∧
  (s.kindAt (addr + 1#16) = .ram → t.held (addr + 1#16) = hiByte v) ∧
  (s.kindAt (addr + 1#16) ≠ .ram → t.held (addr + 1#16) = s.held (addr + 1#16)) ∧
  ∀ x, x ≠ addr → x ≠ addr + 1#16 → t.held x = s.held x

/-- `s` with the seven general registers of `t`. -/
def State.withRegsOf (s t : State) : State :=
  { s with a := t.a, b := t.b, c := t.c, d := t.d, e := t.e, h := t.h, l := t.l }

/-- Only the register `r` differs between the general registers of `s` and `t`, and it holds `v` in `t`. -/
def WritesReg (s t : State) (r : Reg) (v : Byte) : Prop :=
  t.readReg r = v ∧ ∀ q, q ≠ r → t.readReg q = s.readReg q

/-- Only the pair `p` differs between the `dd` pairs of `s` and `t`, and it holds `v` in `t`. -/
def WritesPair (s t : State) (p : Pair) (v : Word) : Prop :=
  t.readPair p = v ∧ ∀ q, q ≠ p → t.readPair q = s.readPair q

/-- `s` with BC, DE, HL and SP of `t`. -/
def State.withPairsOf (s t : State) : State :=
  { s with b := t.b, c := t.c, d := t.d, e := t.e, h := t.h, l := t.l, sp := t.sp }

/-! ## Flags, stated without the model's own formulas -/

/-- The number of 1 bits of a byte (00_scope.md R12). -/
def onesCount (v : Byte) : Nat := (List.range 8).countP (fun k => v.getLsbD k)

/-- S, Z and P/V of `f` are the sign, the zero test and the even parity of `v` (00_scope.md R12, R13). -/
def FlagsOfByte (f : Flags) (v : Byte) : Prop :=
  (f.s = true ↔ 128 ≤ v.toNat) ∧ (f.z = true ↔ v = 0#8) ∧ (f.pv = true ↔ onesCount v % 2 = 0)

/-- The six flags of the sum of two bytes and a carry (00_scope.md R14). -/
def SumFlags8 (f : Flags) (a b : Byte) (cin : Bool) : Prop :=
  (f.s = true ↔ 128 ≤ (a.toNat + b.toNat + cin.toNat) % 256) ∧
  (f.z = true ↔ (a.toNat + b.toNat + cin.toNat) % 256 = 0) ∧
  (f.h = true ↔ 15 < a.toNat % 16 + b.toNat % 16 + cin.toNat) ∧
  (f.pv = true ↔ a.toInt + b.toInt + cin.toNat < -128 ∨ 127 < a.toInt + b.toInt + cin.toNat) ∧
  f.n = false ∧ (f.c = true ↔ 255 < a.toNat + b.toNat + cin.toNat)

/-- The six flags of the difference of two bytes and a borrow (00_scope.md R15). -/
def DifferenceFlags8 (f : Flags) (a b : Byte) (cin : Bool) : Prop :=
  (f.s = true ↔ 128 ≤ ((a.toNat : Int) - b.toNat - cin.toNat) % 256) ∧
  (f.z = true ↔ ((a.toNat : Int) - b.toNat - cin.toNat) % 256 = 0) ∧
  (f.h = true ↔ a.toNat % 16 < b.toNat % 16 + cin.toNat) ∧
  (f.pv = true ↔ a.toInt - b.toInt - cin.toNat < -128 ∨ 127 < a.toInt - b.toInt - cin.toNat) ∧
  f.n = true ∧ (f.c = true ↔ a.toNat < b.toNat + cin.toNat)

/-- The six flags of the sum of two words and a carry (00_scope.md R16). -/
def SumFlags16 (f : Flags) (a b : Word) (cin : Bool) : Prop :=
  (f.s = true ↔ 32768 ≤ (a.toNat + b.toNat + cin.toNat) % 65536) ∧
  (f.z = true ↔ (a.toNat + b.toNat + cin.toNat) % 65536 = 0) ∧
  (f.h = true ↔ 4095 < a.toNat % 4096 + b.toNat % 4096 + cin.toNat) ∧
  (f.pv = true ↔ a.toInt + b.toInt + cin.toNat < -32768 ∨ 32767 < a.toInt + b.toInt + cin.toNat) ∧
  f.n = false ∧ (f.c = true ↔ 65535 < a.toNat + b.toNat + cin.toNat)

/-- The six flags of the difference of two words and a borrow (00_scope.md R16). -/
def DifferenceFlags16 (f : Flags) (a b : Word) (cin : Bool) : Prop :=
  (f.s = true ↔ 32768 ≤ ((a.toNat : Int) - b.toNat - cin.toNat) % 65536) ∧
  (f.z = true ↔ ((a.toNat : Int) - b.toNat - cin.toNat) % 65536 = 0) ∧
  (f.h = true ↔ a.toNat % 4096 < b.toNat % 4096 + cin.toNat) ∧
  (f.pv = true ↔ a.toInt - b.toInt - cin.toNat < -32768 ∨ 32767 < a.toInt - b.toInt - cin.toNat) ∧
  f.n = true ∧ (f.c = true ↔ a.toNat < b.toNat + cin.toNat)

/-- The flags of ADD HL,ss and its IX and IY forms: H, N and C of the sum; S, Z and P/V as in `old`
(00_scope.md R16). -/
def PlainSumFlags16 (old f : Flags) (a b : Word) : Prop :=
  (f.h = true ↔ 4095 < a.toNat % 4096 + b.toNat % 4096) ∧ f.n = false ∧
  (f.c = true ↔ 65535 < a.toNat + b.toNat) ∧ f.s = old.s ∧ f.z = old.z ∧ f.pv = old.pv

/-- The flags of INC on the byte `v`; C as in `old` (00_scope.md R23). -/
def IncFlags (old f : Flags) (v : Byte) : Prop :=
  (f.s = true ↔ 128 ≤ (v.toNat + 1) % 256) ∧ (f.z = true ↔ v = 0xFF#8) ∧ (f.h = true ↔ v.toNat % 16 = 15) ∧
  (f.pv = true ↔ v = 0x7F#8) ∧ f.n = false ∧ f.c = old.c

/-- The flags of DEC on the byte `v`; C as in `old` (00_scope.md R23). -/
def DecFlags (old f : Flags) (v : Byte) : Prop :=
  (f.s = true ↔ 128 ≤ (v.toNat + 255) % 256) ∧ (f.z = true ↔ v = 1#8) ∧ (f.h = true ↔ v.toNat % 16 = 0) ∧
  (f.pv = true ↔ v = 0x80#8) ∧ f.n = true ∧ f.c = old.c

/-! ## Rotates, shifts and conditions as tables -/

/-- The rotates and shifts (00_scope.md R19). -/
inductive ShiftKind where
  | rlc | rl | rrc | rr | sla | sra | srl
  deriving DecidableEq, Repr

/-- The byte a rotate or shift gives for `v` and the old carry `c`, written with word operations. -/
def ShiftKind.result (k : ShiftKind) (v : Byte) (c : Bool) : Byte :=
  match k with
  | .rlc => v.rotateLeft 1
  | .rl => (v <<< 1) ||| (if c then 1#8 else 0#8)
  | .rrc => v.rotateRight 1
  | .rr => (v >>> 1) ||| (if c then 0x80#8 else 0#8)
  | .sla => v <<< 1
  | .sra => v.sshiftRight 1
  | .srl => v >>> 1

/-- The bit that goes to the carry: bit 7 of a left movement, bit 0 of a right one. -/
def ShiftKind.carry (k : ShiftKind) (v : Byte) : Bool :=
  match k with
  | .rlc | .rl | .sla => v.getLsbD 7
  | .rrc | .rr | .sra | .srl => v.getLsbD 0

/-- The conditions and whether they hold (00_scope.md R20). -/
def conditionTable (f : Flags) : List (Cond × Bool) :=
  [(.nz, !f.z), (.z, f.z), (.nc, !f.c), (.c, f.c), (.po, !f.pv), (.pe, f.pv), (.p, !f.s), (.m, f.s)]

/-! ## R -/

/-- R from `s` to `t` in a step that runs an instruction, or enters an interrupt and runs none, as `R_STEP` says: bit 7
stays and the low seven bits are free; or bit 7 stays and the low seven bits count the opcode fetches; or R is what the
table gives, and where it gives nothing bit 7 stays (10_state.md R54; 92_eei_decisions.md D15; log entry 8). -/
def StepsR (s t : State) (cause : Option Instr) : Prop :=
  match s.params.rStep with
  | .any => t.r.getLsbD 7 = s.r.getLsbD 7
  | .fetchCount =>
    t.r.getLsbD 7 = s.r.getLsbD 7 ∧ t.r.toNat % 128 = (s.r.toNat + causeFetches cause) % 128
  | .table rows =>
    match rows.find? (fun x => decide (x.cause = cause ∧ x.old = s.r)) with
    | some x => t.r = x.new
    | none => t.r.getLsbD 7 = s.r.getLsbD 7

/-- R from `s` to `t` in a step that runs the instruction `i`: LD R,A leaves R = A, every other instruction advances R
(46_ld_part2_ldd_ldi.md R405; 10_state.md R54). -/
def RunsR (s t : State) (i : Instr) : Prop :=
  if i = .ldRefreshA then t.r = s.a else StepsR s t (some i)

/-! ## Ports -/

/-- `IOSPACE` presents the byte `v` to a read at a 16-bit I/O address now (20_memory.md R86; log entry 10). -/
def State.presents (s : State) (addr : Word) (v : Byte) : Prop :=
  ∃ p ps e, s.ioSpace = p :: ps ∧
    p.find? (fun x => addr &&& x.mask == x.addr &&& x.mask) = some e ∧ v = e.value

/-- The port functions after one read: the front one is used up, unless it is the last (log entry 10). -/
def State.ioSpaceAfterRead (s : State) : List PortFunction :=
  if s.ioSpace.length ≤ 1 then s.ioSpace else s.ioSpace.tail

/-! ## Requests -/

/-- No request is accepted at the coming boundary (60_exceptions.md R602, R603). -/
def State.undisturbed (s : State) : Prop :=
  s.boundaryInput.reset = false ∧ s.nmiPending = false ∧ s.boundaryInput.nmi = false ∧
  (s.boundaryInput.int = none ∨ s.iff1 = false ∨ s.eiShadow = true)

/-- A maskable request with the bytes `bytes` is accepted at the coming boundary (60_exceptions.md R606). -/
def State.acceptsInt (s : State) (bytes : List Byte) : Prop :=
  s.boundaryInput.reset = false ∧ s.nmiPending = false ∧ s.boundaryInput.nmi = false ∧
  s.boundaryInput.int = some bytes ∧ s.iff1 = true ∧ s.eiShadow = false

/-- The byte `v` is two decimal digits: `n` in packed BCD (42 R270). -/
def IsBcd (n : Nat) (v : Byte) : Prop := n < 100 ∧ v.toNat = n / 10 * 16 + n % 10

end Sys2Proof.Machine
end

