-- ==== Sys2Proof/Certificates/Slice0/Obligations.lean ====
section
/-! DEFINITION. The statements about the machine. Most say what an instruction does as: for each listed form with its
operands, `exec` answers a next state `t`, the values `t` holds, and `t = { s with … }`, an equation that names every
field that may differ from `s` and so is the frame of the instruction. `free`, the model's own counter of free values
(log entry 3), is the one field of that list that is no part of the hardware. -/

open Sys2Proof Sys2Proof.Machine

/-! ## Encoding -/

/-- Decoding undoes encoding, for every well-formed instruction and whatever bytes follow (30_encoding.md R110 to
R128). -/
def Obligations.DecodeEncode : Prop :=
  ∀ (i : Instr) (rest : List Byte), i.wellFormed = true → decode (encode i ++ rest) = .ok (i, rest)

/-- The decoder accepts only what the encoder writes: the bytes it read are the encoding of the instruction it found,
which is well formed (30_encoding.md R126). -/
def Obligations.DecodeSound : Prop :=
  ∀ (bytes : List Byte) (i : Instr) (rest : List Byte),
    decode bytes = .ok (i, rest) → bytes = encode i ++ rest ∧ i.wellFormed = true

/-- The encodings that no rule defines are exactly those of 30_encoding.md R135 (a) to (d), and every unprefixed first
byte is defined (R127). `x` and `y` stand for the bytes behind the operation code. -/
def Obligations.UndefinedEncodings : Prop :=
  ∀ (op d x y : Byte) (rest : List Byte),
    (decode (0xCB#8 :: op :: rest) = .error (.undefinedEncoding [0xCB#8, op]) ↔ op.toNat / 8 = 6) ∧
    (decode (0xED#8 :: op :: x :: y :: rest) = .error (.undefinedEncoding [0xED#8, op]) ↔
      op.toNat ∉ [0x40, 0x48, 0x50, 0x58, 0x60, 0x68, 0x78, 0x41, 0x49, 0x51, 0x59, 0x61, 0x69, 0x79,
        0x42, 0x52, 0x62, 0x72, 0x4A, 0x5A, 0x6A, 0x7A, 0x43, 0x53, 0x63, 0x73, 0x4B, 0x5B, 0x6B, 0x7B] ++
        [0x44, 0x45, 0x4D, 0x46, 0x56, 0x5E, 0x47, 0x4F, 0x57, 0x5F, 0x67, 0x6F] ++
        [0xA0, 0xA1, 0xA2, 0xA3, 0xA8, 0xA9, 0xAA, 0xAB, 0xB0, 0xB1, 0xB2, 0xB3, 0xB8, 0xB9, 0xBA, 0xBB]) ∧
    (∀ pre ∈ [0xDD#8, 0xFD#8],
      (decode (pre :: op :: x :: y :: rest) = .error (.undefinedEncoding [pre, op]) ↔
        op.toNat ∉ [0x09, 0x19, 0x29, 0x39, 0x21, 0x22, 0x23, 0x2A, 0x2B, 0x34, 0x35, 0x36, 0x46, 0x4E, 0x56, 0x5E,
          0x66, 0x6E, 0x7E, 0x70, 0x71, 0x72, 0x73, 0x74, 0x75, 0x77] ++
          [0x86, 0x8E, 0x96, 0x9E, 0xA6, 0xAE, 0xB6, 0xBE, 0xCB, 0xE1, 0xE3, 0xE5, 0xE9, 0xF9]) ∧
      (decode (pre :: 0xCB#8 :: d :: op :: rest) = .error (.undefinedEncoding [pre, 0xCB#8, d, op]) ↔
        op.toNat % 8 ≠ 6 ∨ op = 0x36#8)) ∧
    (op ∉ [0xCB#8, 0xDD#8, 0xED#8, 0xFD#8] → ∃ i tail, decode (op :: x :: y :: rest) = .ok (i, tail))

/-- Byte sequences written out from the encoding rules, read as the instructions they stand for: a sanity check with one
or more of each of the formats F1 to F12. Some of these codes the source does not print: the spec derives them or takes
them from general knowledge (30_encoding.md R111; 93_implementation_defined.md G9 to G23; log entry 20). -/
def Obligations.EncodedWords : Prop :=
  ∀ x ∈ ([([0x3F#8], .ccf), ([0xC6#8, 0x33#8], .addAN 0x33#8), ([0xD4#8, 0x35#8, 0x21#8], .callCcNN .nc 0x2135#16),
      ([0xED#8, 0x44#8], .neg), ([0xED#8, 0xB0#8], .ldir), ([0xDD#8, 0xE9#8], .jpIX),
      ([0xDD#8, 0x86#8, 0x05#8], .addAAtIX 0x05#8), ([0xCB#8, 0x46#8], .bitBAtHL 0#3),
      ([0xDD#8, 0xCB#8, 0x10#8, 0x1E#8], .rrAtIX 0x10#8), ([0xFD#8, 0xCB#8, 0xF0#8, 0x0E#8], .rrcAtIY 0xF0#8),
      ([0xED#8, 0x4B#8, 0x30#8, 0x21#8], .ldDdAtNN .bc 0x2130#16), ([0x22#8, 0x29#8, 0xB2#8], .ldAtNNHL 0xB229#16),
      ([0xDF#8], .rst 0x18#8), ([0x76#8], .halt), ([0xE3#8], .exAtSPHL), ([0xFD#8, 0x2B#8], .decIY),
      ([0x30#8, 0xFE#8], .jrNC 0xFE#8), ([0x10#8, 0xF6#8], .djnz 0xF6#8),
      ([0xDD#8, 0x21#8, 0xA2#8, 0x45#8], .ldIXNN 0x45A2#16), ([0xFD#8, 0x22#8, 0x92#8, 0x43#8], .ldAtNNIY 0x4392#16),
      ([0xDD#8, 0x36#8, 0x05#8, 0x5A#8], .ldAtIXN 0x05#8 0x5A#8),
      ([0xFD#8, 0x36#8, 0x10#8, 0x97#8], .ldAtIYN 0x10#8 0x97#8)] :
      List (List Byte × Instr)),
    decode x.1 = .ok (x.2, [])

/-! ## The step -/

/-- When nothing interrupts and the CPU is not halted, a step runs the instruction that stands at PC: its meaning in the
state whose PC is past the instruction, with the EI hold-off over, one boundary's input used up and the free values
moved on; then R advances, except after LD R,A (10_state.md R46, R54; 60_exceptions.md R603). -/
def Obligations.StepRunsDecoded : Prop :=
  ∀ (s : State) (i : Instr) (rest : List Byte),
    s.undisturbed → s.halted = false → decode s.fetchBytes = .ok (i, rest) →
    step s =
      match exec i { s with pc := s.pc + BitVec.ofNat 16 (encode i).length, eiShadow := false,
                            inputs := s.inputs.tail, free := s.free + 1 } with
      | .next t => .next (if i = .ldRefreshA then t.drawn else t.advanceR (some i))
      | .fault e => .fault e
      | .refused e => .refused e

/-- A step stops at an encoding the spec does not define, fetched at PC or supplied by a device in mode 0 (log entry 25),
and names its bytes as `UNDEF_OPCODE` says; from every other state it answers a next state: no instruction raises an
exception, and no ordinary data stops a run (60_exceptions.md R600, R607; 30_encoding.md R135). -/
def Obligations.StopsExactlyAtUndefinedEncodings : Prop :=
  ∀ s : State,
    (∀ bytes,
      ((s.undisturbed ∧ s.halted = false ∧ decode s.fetchBytes = .error (.undefinedEncoding bytes)) ∨
       ∃ given, s.acceptsInt given ∧ s.im = .im0 ∧
         decode (s.suppliedBytes given) = .error (.undefinedEncoding bytes)) →
      (s.params.undefOpcode = .refuse → step s = .refused (.undefinedEncoding bytes)) ∧
      (s.params.undefOpcode = .fault → step s = .fault (.undefinedEncoding bytes))) ∧
    ((∃ t, step s = .next t) ∨
     ∃ bytes,
       (s.undisturbed ∧ s.halted = false ∧ decode s.fetchBytes = .error (.undefinedEncoding bytes)) ∨
       ∃ given, s.acceptsInt given ∧ s.im = .im0 ∧
         decode (s.suppliedBytes given) = .error (.undefinedEncoding bytes))

/-- The boundary that follows a request for reset: the state after it is the table of 10_state.md R61, whatever else is
requested and whatever the CPU was doing; the registers without a reset value come from `RESET_STATE`; memory, devices
and parameters stay (70_reset_and_hazards.md R650, R651). The reset values are the spec's own decision D3 from general
knowledge; that the boundary's other requests are used up and a latched NMI is dropped is the model's reading: log
entry 23. -/
def Obligations.ResetEvent : Prop :=
  ∀ s : State, s.boundaryInput.reset = true →
    step s = .next
      { s with
        pc := 0x0000#16, iff1 := false, iff2 := false, im := .im0, i := 0x00#8, r := 0x00#8, halted := false,
        eiShadow := false, nmiPending := false,
        a := s.params.resetState.a, f := s.params.resetState.f, b := s.params.resetState.b,
        c := s.params.resetState.c, d := s.params.resetState.d, e := s.params.resetState.e,
        h := s.params.resetState.h, l := s.params.resetState.l, altA := s.params.resetState.altA,
        altF := s.params.resetState.altF, altB := s.params.resetState.altB, altC := s.params.resetState.altC,
        altD := s.params.resetState.altD, altE := s.params.resetState.altE, altH := s.params.resetState.altH,
        altL := s.params.resetState.altL, ix := s.params.resetState.ix, iy := s.params.resetState.iy,
        sp := s.params.resetState.sp, inputs := s.inputs.tail }

/-- The state right after reset, in the registers that have a reset value: execution starts at 0000H with interrupts
disabled and mode 0 (70_reset_and_hazards.md R651 to R653). -/
def Obligations.ResetState : Prop :=
  State.reset.pc = 0x0000#16 ∧ State.reset.iff1 = false ∧ State.reset.iff2 = false ∧ State.reset.im = .im0 ∧
  State.reset.i = 0x00#8 ∧ State.reset.r = 0x00#8 ∧ State.reset.halted = false ∧ State.reset.eiShadow = false ∧
  State.reset.nmiPending = false

/-- The invariant holds after reset. -/
def Obligations.InvariantAtReset : Prop := State.reset.Inv

/-- Every step keeps the invariant: memory stays canonical (a property of the model's representation), IFF1 implies
IFF2, and the hold-off of EI stands only with interrupts enabled and the CPU running (10_state.md R55, R58, R59). -/
def Obligations.StepKeepsInvariant : Prop :=
  ∀ s t : State, s.Inv → step s = .next t → t.Inv

/-- No step changes the open parameters, and no step changes a byte of ROM or of an unpopulated address, whatever it
executes (20_memory.md R85; 00_scope.md R6). -/
def Obligations.StepKeepsRom : Prop :=
  ∀ s t : State, step s = .next t →
    t.params = s.params ∧ ∀ x : Word, s.kindAt x ≠ .ram → t.held x = s.held x

/-! ## Interrupts -/

/-- Acceptance of a non-maskable interrupt, halted or not, whatever IFF1 and the EI hold-off say: PC is pushed, control
goes to 0066H, IFF1 is cleared and IFF2 kept (60_exceptions.md R610, R602, R605). The flip-flops and the order before INT
are the spec's own decisions D11 and D30; that a request made at this very boundary is latched and taken at once is the
model's form of the inputs: log entry 9. What R becomes is said in `RefreshAdvance`. -/
def Obligations.NmiEntry : Prop :=
  ∀ s : State, Memory.wf s.mem = true → s.boundaryInput.reset = false →
    s.nmiPending = true ∨ s.boundaryInput.nmi = true →
    ∃ t, step s = .next t ∧ StoresWord s t (s.sp - 2#16) s.pc ∧
      t = { s with pc := 0x0066#16, sp := s.sp - 2#16, mem := t.mem, nmiPending := false, halted := false,
                   eiShadow := false, iff1 := false, inputs := s.inputs.tail, r := t.r, free := t.free }

/-- Acceptance of a maskable interrupt in mode 1: PC is pushed and control goes to 0038H, whatever bytes the device
supplies; both flip-flops are cleared and the halt state ends (60_exceptions.md R606, R608). The clearing of the
flip-flops is the spec's decision D11 from general knowledge and that the bytes are ignored its decision D29 (log
entries 20 and 26). -/
def Obligations.IntMode1Entry : Prop :=
  ∀ (s : State) (given : List Byte), Memory.wf s.mem = true → s.acceptsInt given → s.im = .im1 →
    ∃ t, step s = .next t ∧ StoresWord s t (s.sp - 2#16) s.pc ∧
      t = { s with pc := 0x0038#16, sp := s.sp - 2#16, mem := t.mem, halted := false, eiShadow := false,
                   iff1 := false, iff2 := false, inputs := s.inputs.tail, r := t.r, free := t.free }

/-- Acceptance of a maskable interrupt in mode 2: PC is pushed, then the word at `I ++ v` is read, low byte first, and
control goes there (60_exceptions.md R606, R609). The byte `v` is the first that the device supplies; if it supplies
none, some byte, a free value, is taken in its place: log entry 26. A table entry at an unpopulated address reads as any
value (20_memory.md R85). The table of entries, the push before the read, the flip-flops and the memory map are the
spec's decisions D13, D11 and D24 (log entry 20). -/
def Obligations.IntMode2Entry : Prop :=
  ∀ (s : State) (given : List Byte), Memory.wf s.mem = true → s.acceptsInt given → s.im = .im2 →
    ∃ t v, step s = .next t ∧ (∀ w more, given = w :: more → v = w) ∧ StoresWord s t (s.sp - 2#16) s.pc ∧
      (s.kindAt (mkWord s.i v) ≠ .unmapped → loByte t.pc = t.held (mkWord s.i v)) ∧
      (s.kindAt (mkWord s.i v + 1#16) ≠ .unmapped → hiByte t.pc = t.held (mkWord s.i v + 1#16)) ∧
      t = { s with pc := t.pc, sp := s.sp - 2#16, mem := t.mem, halted := false, eiShadow := false,
                   iff1 := false, iff2 := false, inputs := s.inputs.tail, r := t.r, free := t.free }

/-- Acceptance of a maskable interrupt in mode 0: the supplied instruction runs by its ordinary rule, with PC standing
at the interrupted program, the flip-flops cleared and the halt state over (60_exceptions.md R606, R607). A device that
supplies fewer bytes than the instruction has is read as if free values stood behind them: the four bytes decoded begin
with those it supplies (log entry 12). -/
def Obligations.IntMode0RunsSupplied : Prop :=
  ∀ (s : State) (given : List Byte), s.acceptsInt given → s.im = .im0 →
    given.take 4 <+: s.suppliedBytes given ∧ (s.suppliedBytes given).length = 4 ∧
    ∀ (i : Instr) (rest : List Byte),
      (i.wellFormed = true ∧ given = encode i ++ rest) ∨ decode (s.suppliedBytes given) = .ok (i, rest) →
      step s =
        match exec i { s with halted := false, eiShadow := false, iff1 := false, iff2 := false,
                              inputs := s.inputs.tail, free := s.free + 5 } with
        | .next t => .next (if i = .ldRefreshA then t.drawn else t.advanceR (some i))
        | .fault e => .fault e
        | .refused e => .refused e

/-- A maskable request changes nothing while IFF1 is 0 or the EI hold-off stands: the step is the one the machine would
take without it, and the request is not remembered (60_exceptions.md R602, R603). -/
def Obligations.MaskedRequestIsIgnored : Prop :=
  ∀ (s : State) (x : BoundaryInput) (more : List BoundaryInput),
    s.inputs = x :: more → s.iff1 = false ∨ s.eiShadow = true →
    step s = step { s with inputs := { x with int := none } :: more }

/-- After the step of an EI a maskable request is not accepted at the next boundary: that step is the one without the
request (42_daa_dec_di_djnz_ei_ex_exx.md R283; 60_exceptions.md R602). -/
def Obligations.EiHoldsOffOneInstruction : Prop :=
  ∀ (s : State) (rest given : List Byte) (more : List BoundaryInput),
    s.undisturbed → s.halted = false → decode s.fetchBytes = .ok (.ei, rest) →
    ∃ t, step s = .next t ∧ t.iff1 = true ∧ t.iff2 = true ∧ t.eiShadow = true ∧
      step { t with inputs := { reset := false, nmi := false, int := some given } :: more } =
        step { t with inputs := BoundaryInput.quiet :: more }

/-- While the CPU is halted and no request is accepted, a step changes no register but R, and no memory
(60_exceptions.md R603, R619; 10_state.md R58). -/
def Obligations.HaltedStepIsIdle : Prop :=
  ∀ s : State, s.undisturbed → s.halted = true →
    ∃ t, step s = .next t ∧
      t = { s with r := t.r, free := t.free, eiShadow := false, inputs := s.inputs.tail }

/-- R in every step with no reset, as `R_STEP` says (`StepsR`, `RunsR`): a step that runs an instruction, fetched or
supplied in mode 0; the idle step of the halt state, which acts as a NOP; and an entry to an interrupt that runs no
instruction, by NMI or in modes 1 and 2. Under `R_STEP` = any and under the opcode-fetch count bit 7 stays but in LD R,A,
and the count is 2 behind a CB, DD, ED or FD prefix and 1 elsewhere (10_state.md R54, R58; 92_eei_decisions.md D15; 46
R405). That such an entry counts no fetch, and that an idle step counts one, is the model's choice: log entry 8. -/
def Obligations.RefreshAdvance : Prop :=
  (causeFetches none = 0 ∧ ∀ i : Instr, causeFetches (some i) =
    if ∃ pre ∈ [0xCB#8, 0xDD#8, 0xED#8, 0xFD#8], (encode i).head? = some pre then 2 else 1) ∧
  ∀ s t : State, s.boundaryInput.reset = false → step s = .next t →
    (s.nmiPending = true ∨ s.boundaryInput.nmi = true → StepsR s t none) ∧
    (∀ given, s.acceptsInt given → s.im ≠ .im0 → StepsR s t none) ∧
    (∀ given i rest, s.acceptsInt given → s.im = .im0 → decode (s.suppliedBytes given) = .ok (i, rest) →
      RunsR s t i) ∧
    (s.undisturbed → s.halted = true → StepsR s t (some .nop)) ∧
    (∀ i rest, s.undisturbed → s.halted = false → decode s.fetchBytes = .ok (i, rest) → RunsR s t i)

/-! ## Rules over all instructions -/

/-- The control state changes only in the instructions that name it: I in LD I,A, R in LD R,A, IM in IM 0 to IM 2, IFF2
in DI and EI, IFF1 in DI, EI, RETI and RETN, the halt state in HALT, the hold-off in DI and EI; no instruction touches a
pending request, the coming requests or a parameter (10_state.md R53 to R60; 60_exceptions.md R613). -/
def Obligations.ControlStateFrame : Prop :=
  ∀ (i : Instr) (s t : State), exec i s = .next t →
    (i ≠ .ldIA → t.i = s.i) ∧
    (i ≠ .ldRefreshA → t.r = s.r) ∧
    (i ∉ [.im0, .im1, .im2] → t.im = s.im) ∧
    (i ∉ [.di, .ei] → t.iff2 = s.iff2 ∧ t.eiShadow = s.eiShadow) ∧
    (i ∉ [.di, .ei, .reti, .retn] → t.iff1 = s.iff1) ∧
    (i ≠ .halt → t.halted = s.halted) ∧
    t.nmiPending = s.nmiPending ∧ t.inputs = s.inputs ∧ t.params = s.params

/-- The alternate set changes only in EX AF,AF' and EXX; the I/O space is reached only by the input and output
instructions, and besides them only RETI is seen by the devices (10_state.md R43; 20_memory.md R81;
48_res_ret_rotates_rst.md R486). -/
def Obligations.AlternateSetAndPortsFrame : Prop :=
  ∀ (i : Instr) (s t : State), exec i s = .next t →
    (i ≠ .exAFAF → t.altA = s.altA ∧ t.altF = s.altF) ∧
    (i ≠ .exx → t.altB = s.altB ∧ t.altC = s.altC ∧ t.altD = s.altD ∧ t.altE = s.altE ∧ t.altH = s.altH ∧
      t.altL = s.altL) ∧
    ((∀ n, i ≠ .inAN n) → (∀ r, i ≠ .inRC r) → (∀ n, i ≠ .outNA n) → (∀ r, i ≠ .outCR r) →
      i ∉ [.ini, .inir, .ind, .indr, .outi, .otir, .outd, .otdr] →
      t.ioSpace = s.ioSpace ∧ (i ≠ .reti → t.bus = s.bus))

/-! ## The primitives -/

/-- `add8` and `sub8`: the result modulo 256 and the six flags (00_scope.md R14, R15). The overflow formula is general
knowledge in the spec, and the borrow bits of a difference it derives by symmetry: log entry 20. -/
def Obligations.ByteSumAndDifference : Prop :=
  ∀ (a b : Byte) (cin : Bool) (f : Flags),
    (add8 a b cin).res.toNat = (a.toNat + b.toNat + cin.toNat) % 256 ∧
    SumFlags8 (f.withNamed (add8 a b cin).flags) a b cin ∧
    ((add8 a b cin).flags.pv = true ↔ a.msb = b.msb ∧ (add8 a b cin).res.msb ≠ a.msb) ∧
    ((sub8 a b cin).res.toNat : Int) = ((a.toNat : Int) - b.toNat - cin.toNat) % 256 ∧
    DifferenceFlags8 (f.withNamed (sub8 a b cin).flags) a b cin ∧
    ((sub8 a b cin).flags.pv = true ↔ a.msb ≠ b.msb ∧ (sub8 a b cin).res.msb ≠ a.msb)

/-- `add16` and `sub16`: the result modulo 65536 and the six flags; PV is the signed overflow (00_scope.md R16). -/
def Obligations.WordSumAndDifference : Prop :=
  ∀ (a b : Word) (cin : Bool) (f : Flags),
    (add16 a b cin).res.toNat = (a.toNat + b.toNat + cin.toNat) % 65536 ∧
    SumFlags16 (f.withNamed (add16 a b cin).flags) a b cin ∧
    ((add16 a b cin).flags.pv = true ↔ a.msb = b.msb ∧ (add16 a b cin).res.msb ≠ a.msb) ∧
    ((sub16 a b cin).res.toNat : Int) = ((a.toNat : Int) - b.toNat - cin.toNat) % 65536 ∧
    DifferenceFlags16 (f.withNamed (sub16 a b cin).flags) a b cin ∧
    ((sub16 a b cin).flags.pv = true ↔ a.msb ≠ b.msb ∧ (sub16 a b cin).res.msb ≠ a.msb)

/-- The address of an indexed operand is the index register plus the displacement read as a number from -128 to 127,
modulo 65536 (00_scope.md R22; the wrap is the spec's decision D5). -/
def Obligations.IndexedAddress : Prop :=
  (∀ (x : Word) (d : Byte), ((ea x d).toNat : Int) = ((x.toNat : Int) + d.toInt) % 65536) ∧
  ∀ (s : State) (d : Byte), s.addrIX d = ea s.ix d ∧ s.addrIY d = ea s.iy d

/-- The rotate and shift functions, bit by bit (00_scope.md R19). -/
def Obligations.RotateAndShiftBits : Prop :=
  ∀ (v : Byte) (c : Bool),
    (∀ k < 7, (rlc v).res.getLsbD (k + 1) = v.getLsbD k ∧ (rl v c).res.getLsbD (k + 1) = v.getLsbD k ∧
      (sla v).res.getLsbD (k + 1) = v.getLsbD k ∧ (rrc v).res.getLsbD k = v.getLsbD (k + 1) ∧
      (rr v c).res.getLsbD k = v.getLsbD (k + 1) ∧ (sra v).res.getLsbD k = v.getLsbD (k + 1) ∧
      (srl v).res.getLsbD k = v.getLsbD (k + 1)) ∧
    (rlc v).res.getLsbD 0 = v.getLsbD 7 ∧ (rl v c).res.getLsbD 0 = c ∧ (sla v).res.getLsbD 0 = false ∧
    (rrc v).res.getLsbD 7 = v.getLsbD 0 ∧ (rr v c).res.getLsbD 7 = c ∧ (sra v).res.getLsbD 7 = v.getLsbD 7 ∧
    (srl v).res.getLsbD 7 = false ∧
    (rlc v).cout = v.getLsbD 7 ∧ (rl v c).cout = v.getLsbD 7 ∧ (sla v).cout = v.getLsbD 7 ∧
    (rrc v).cout = v.getLsbD 0 ∧ (rr v c).cout = v.getLsbD 0 ∧ (sra v).cout = v.getLsbD 0 ∧
    (srl v).cout = v.getLsbD 0

/-- The condition field: its eight values and when each holds (00_scope.md R20). -/
def Obligations.ConditionField : Prop :=
  ∀ f : Flags, ∀ x ∈ ([(0b000#3, .nz, !f.z), (0b001#3, .z, f.z), (0b010#3, .nc, !f.c), (0b011#3, .c, f.c),
      (0b100#3, .po, !f.pv), (0b101#3, .pe, f.pv), (0b110#3, .p, !f.s), (0b111#3, .m, f.s)] :
      List (BitVec 3 × Cond × Bool)),
    decodeCond x.1 = x.2.1 ∧ condHolds f x.2.1 = x.2.2

/-- The places of the flags in F (10_state.md R50); the two unnamed bits are bits 5 and 3 (R51). -/
def Obligations.FlagPositions : Prop :=
  ∀ f : Flags,
    f.toByte.getLsbD 7 = f.s ∧ f.toByte.getLsbD 6 = f.z ∧ f.toByte.getLsbD 5 = f.b5 ∧ f.toByte.getLsbD 4 = f.h ∧
    f.toByte.getLsbD 3 = f.b3 ∧ f.toByte.getLsbD 2 = f.pv ∧ f.toByte.getLsbD 1 = f.n ∧ f.toByte.getLsbD 0 = f.c ∧
    Flags.ofByte f.toByte = f

/-- Memory accesses: RAM and ROM give the byte held; a store reaches RAM alone and no other byte; a word lies with its
low byte at the lower address, modulo 65536; the default memory map is all RAM (20_memory.md R83 to R87). -/
def Obligations.MemoryAccess : Prop :=
  ∀ s : State, Memory.wf s.mem = true →
    (∀ x, s.kindAt x ≠ .unmapped → s.read8 x = s.held x) ∧
    (∀ x v, StoresByte s (s.write8 x v) x v ∧ s.write8 x v = { s with mem := (s.write8 x v).mem }) ∧
    (∀ x, s.read16 x = mkWord (s.read8 (x + 1#16)) (s.read8 x)) ∧
    (∀ x v, StoresWord s (s.write16 x v) x v ∧ s.write16 x v = { s with mem := (s.write16 x v).mem }) ∧
    (s.params = Params.default → ∀ x, s.kindAt x = .ram)

/-! ## 8-bit arithmetic and logic -/

/-- ADD A,s and ADC A,s, every form (40 R201 to R210). -/
def Obligations.AddBytes : Prop :=
  ∀ (s : State) (r : Reg) (n d : Byte),
    ∀ x ∈ ([(.addAR r, s.readReg r, false), (.addAN n, n, false), (.addAAtHL, s.read8 s.hl, false),
        (.addAAtIX d, s.read8 (s.addrIX d), false), (.addAAtIY d, s.read8 (s.addrIY d), false),
        (.adcAR r, s.readReg r, s.f.c), (.adcAN n, n, s.f.c), (.adcAAtHL, s.read8 s.hl, s.f.c),
        (.adcAAtIX d, s.read8 (s.addrIX d), s.f.c), (.adcAAtIY d, s.read8 (s.addrIY d), s.f.c)] :
        List (Instr × Byte × Bool)),
      ∃ t, exec x.1 s = .next t ∧
        t.a.toNat = (s.a.toNat + x.2.1.toNat + x.2.2.toNat) % 256 ∧ SumFlags8 t.f s.a x.2.1 x.2.2 ∧
        t = { s with a := t.a, f := t.f, free := t.free }

/-- SUB s, SBC A,s and CP s, every form: CP writes the flags of A - s and leaves A
(49 R540 to R544, R563 to R567; 41 R237 to R241). -/
def Obligations.SubtractAndCompareBytes : Prop :=
  (∀ (s : State) (r : Reg) (n d : Byte),
     ∀ x ∈ ([(.subR r, s.readReg r, false), (.subN n, n, false), (.subAtHL, s.read8 s.hl, false),
         (.subAtIX d, s.read8 (s.addrIX d), false), (.subAtIY d, s.read8 (s.addrIY d), false),
         (.sbcAR r, s.readReg r, s.f.c), (.sbcAN n, n, s.f.c), (.sbcAAtHL, s.read8 s.hl, s.f.c),
         (.sbcAAtIX d, s.read8 (s.addrIX d), s.f.c), (.sbcAAtIY d, s.read8 (s.addrIY d), s.f.c)] :
         List (Instr × Byte × Bool)),
       ∃ t, exec x.1 s = .next t ∧
         (t.a.toNat : Int) = ((s.a.toNat : Int) - x.2.1.toNat - x.2.2.toNat) % 256 ∧
         DifferenceFlags8 t.f s.a x.2.1 x.2.2 ∧ t = { s with a := t.a, f := t.f, free := t.free }) ∧
  ∀ (s : State) (r : Reg) (n d : Byte),
    ∀ x ∈ ([(.cpR r, s.readReg r), (.cpN n, n), (.cpAtHL, s.read8 s.hl), (.cpAtIX d, s.read8 (s.addrIX d)),
        (.cpAtIY d, s.read8 (s.addrIY d))] : List (Instr × Byte)),
      ∃ t, exec x.1 s = .next t ∧ DifferenceFlags8 t.f s.a x.2 false ∧ t = { s with f := t.f, free := t.free }

/-- AND s, OR s and XOR s, every form: H is 1 after AND and `ORXOR_H` after OR and XOR, N and C are cleared
(40 R214 to R218; 47 R442 to R447; 49 R568 to R572). -/
def Obligations.LogicBytes : Prop :=
  ∀ (s : State) (r : Reg) (n d : Byte),
    ∀ x ∈ ([(.andR r, s.a &&& s.readReg r, true), (.andN n, s.a &&& n, true),
        (.andAtHL, s.a &&& s.read8 s.hl, true), (.andAtIX d, s.a &&& s.read8 (s.addrIX d), true),
        (.andAtIY d, s.a &&& s.read8 (s.addrIY d), true),
        (.orR r, s.a ||| s.readReg r, s.params.orxorH), (.orN n, s.a ||| n, s.params.orxorH),
        (.orAtHL, s.a ||| s.read8 s.hl, s.params.orxorH),
        (.orAtIX d, s.a ||| s.read8 (s.addrIX d), s.params.orxorH),
        (.orAtIY d, s.a ||| s.read8 (s.addrIY d), s.params.orxorH),
        (.xorR r, s.a ^^^ s.readReg r, s.params.orxorH), (.xorN n, s.a ^^^ n, s.params.orxorH),
        (.xorAtHL, s.a ^^^ s.read8 s.hl, s.params.orxorH),
        (.xorAtIX d, s.a ^^^ s.read8 (s.addrIX d), s.params.orxorH),
        (.xorAtIY d, s.a ^^^ s.read8 (s.addrIY d), s.params.orxorH)] : List (Instr × Byte × Bool)),
      ∃ t, exec x.1 s = .next t ∧ t.a = x.2.1 ∧ FlagsOfByte t.f x.2.1 ∧ t.f.h = x.2.2 ∧ t.f.n = false ∧
        t.f.c = false ∧ t = { s with a := t.a, f := t.f, free := t.free }

/-- INC and DEC of a register, of (HL), of (IX+d) and of (IY+d): the register or the one byte of memory is replaced, C
stays (43 R306, R308, R310, R311; 42 R271 to R274; 00_scope.md R23). -/
def Obligations.IncDecBytes : Prop :=
  (∀ (s : State) (r : Reg),
     (∃ t, exec (.incR r) s = .next t ∧ WritesReg s t r (s.readReg r + 1#8) ∧ IncFlags s.f t.f (s.readReg r) ∧
       t = { s.withRegsOf t with f := t.f, free := t.free }) ∧
     (∃ t, exec (.decR r) s = .next t ∧ WritesReg s t r (s.readReg r - 1#8) ∧ DecFlags s.f t.f (s.readReg r) ∧
       t = { s.withRegsOf t with f := t.f, free := t.free })) ∧
  ∀ (s : State) (d : Byte), Memory.wf s.mem = true →
    (∀ x ∈ ([(.incAtHL, s.hl), (.incAtIX d, s.addrIX d), (.incAtIY d, s.addrIY d)] : List (Instr × Word)),
      ∃ t, exec x.1 s = .next t ∧ StoresByte s t x.2 (s.read8 x.2 + 1#8) ∧ IncFlags s.f t.f (s.read8 x.2) ∧
        t = { s with mem := t.mem, f := t.f, free := t.free }) ∧
    (∀ x ∈ ([(.decAtHL, s.hl), (.decAtIX d, s.addrIX d), (.decAtIY d, s.addrIY d)] : List (Instr × Word)),
      ∃ t, exec x.1 s = .next t ∧ StoresByte s t x.2 (s.read8 x.2 - 1#8) ∧ DecFlags s.f t.f (s.read8 x.2) ∧
        t = { s with mem := t.mem, f := t.f, free := t.free })

/-! ## The accumulator -/

/-- CPL, CCF, SCF and NEG: encoding, operation, flags and cycles (41 R236, R246; 49 R546; 47 R440). -/
def Obligations.ComplementNegateAndCarry : Prop :=
  encode .cpl = [0x2F#8] ∧ encode .ccf = [0x3F#8] ∧ encode .scf = [0x37#8] ∧ encode .neg = [0xED#8, 0x44#8] ∧
  ∀ s : State, mCycles .cpl s = [4] ∧ mCycles .ccf s = [4] ∧ mCycles .scf s = [4] ∧ mCycles .neg s = [4, 4] ∧
    (∃ t, exec .cpl s = .next t ∧ (∀ k < 8, t.a.getLsbD k = !s.a.getLsbD k) ∧
      t.f.named = { s.f.named with h := true, n := true } ∧ t = { s with a := t.a, f := t.f, free := t.free }) ∧
    (∃ t, exec .ccf s = .next t ∧ t.f.named = { s.f.named with h := s.f.c, n := false, c := !s.f.c } ∧
      t = { s with f := t.f, free := t.free }) ∧
    (∃ t, exec .scf s = .next t ∧ t.f.named = { s.f.named with h := false, n := false, c := true } ∧
      t = { s with f := t.f, free := t.free }) ∧
    (∃ t, exec .neg s = .next t ∧ t.a.toNat = (256 - s.a.toNat) % 256 ∧ t.f.s = t.a.getLsbD 7 ∧
      (t.f.z = true ↔ s.a = 0x00#8) ∧ (t.f.h = true ↔ s.a.toNat % 16 ≠ 0) ∧ (t.f.pv = true ↔ s.a = 0x80#8) ∧
      t.f.n = true ∧ (t.f.c = true ↔ s.a ≠ 0x00#8) ∧ t = { s with a := t.a, f := t.f, free := t.free })

/-- DAA: in each row of its table (N and C before, range of the high digit, H before, range of the low digit) the byte
added to A and the carry after; in every state S, Z and P/V come from the new A and N stays. Off the table A and C are
free, and H is always free (42 R270; 92_eei_decisions.md D17). -/
def Obligations.DecimalAdjust : Prop :=
  ∀ s : State,
    ∃ t, exec .daa s = .next t ∧ FlagsOfByte t.f t.a ∧ t.f.n = s.f.n ∧
      t = { s with a := t.a, f := t.f, free := t.free } ∧
      ∀ x ∈ ([(false, false, 0x0, 0x9, false, 0x0, 0x9, 0x00#8, false),
          (false, false, 0x0, 0x8, false, 0xA, 0xF, 0x06#8, false),
          (false, false, 0x0, 0x9, true, 0x0, 0x3, 0x06#8, false),
          (false, false, 0xA, 0xF, false, 0x0, 0x9, 0x60#8, true),
          (false, false, 0x9, 0xF, false, 0xA, 0xF, 0x66#8, true),
          (false, false, 0xA, 0xF, true, 0x0, 0x3, 0x66#8, true),
          (false, true, 0x0, 0x2, false, 0x0, 0x9, 0x60#8, true),
          (false, true, 0x0, 0x2, false, 0xA, 0xF, 0x66#8, true),
          (false, true, 0x0, 0x3, true, 0x0, 0x3, 0x66#8, true),
          (true, false, 0x0, 0x9, false, 0x0, 0x9, 0x00#8, false),
          (true, false, 0x0, 0x8, true, 0x6, 0xF, 0xFA#8, false),
          (true, true, 0x7, 0xF, false, 0x0, 0x9, 0xA0#8, true),
          (true, true, 0x6, 0xF, true, 0x6, 0xF, 0x9A#8, true)] :
          List (Bool × Bool × Nat × Nat × Bool × Nat × Nat × Byte × Bool)),
        match x with
        | (n, c, hiFrom, hiTo, h, loFrom, loTo, add, carry) =>
          s.f.n = n → s.f.c = c → hiFrom ≤ s.a.toNat / 16 → s.a.toNat / 16 ≤ hiTo → s.f.h = h →
            loFrom ≤ s.a.toNat % 16 → s.a.toNat % 16 ≤ loTo → t.a = s.a + add ∧ t.f.c = carry

/-- Decimal arithmetic is right: ADD, ADC, SUB or SBC of two packed decimal bytes followed by DAA leaves the decimal
result modulo 100 in A and the decimal carry or borrow in C (42 R270; 40 R202, R206; 49 R541, R564). -/
def Obligations.DecimalArithmetic : Prop :=
  ∀ (s : State) (m k : Nat) (v : Byte), IsBcd m s.a → IsBcd k v →
    (∀ x ∈ ([(.addAN v, 0), (.adcAN v, s.f.c.toNat)] : List (Instr × Nat)),
      ∃ t u, exec x.1 s = .next t ∧ exec .daa t = .next u ∧ IsBcd ((m + k + x.2) % 100) u.a ∧
        (u.f.c = true ↔ 100 ≤ m + k + x.2)) ∧
    (∀ x ∈ ([(.subN v, 0), (.sbcAN v, s.f.c.toNat)] : List (Instr × Nat)),
      ∃ t u, exec x.1 s = .next t ∧ exec .daa t = .next u ∧ IsBcd ((100 + m - k - x.2) % 100) u.a ∧
        (u.f.c = true ↔ m < k + x.2))

/-! ## 16-bit arithmetic -/

/-- ADD HL,ss, ADD IX,pp and ADD IY,rr: only H, N and C are written (40 R211 to R213; 00_scope.md R16). -/
def Obligations.AddPairs : Prop :=
  ∀ s : State,
    (∀ x ∈ ([(.bc, s.bc), (.de, s.de), (.hl, s.hl), (.sp, s.sp)] : List (Pair × Word)),
      ∃ t, exec (.addHLSs x.1) s = .next t ∧ t.hl.toNat = (s.hl.toNat + x.2.toNat) % 65536 ∧
        PlainSumFlags16 s.f t.f s.hl x.2 ∧ t = { s with h := t.h, l := t.l, f := t.f, free := t.free }) ∧
    (∀ x ∈ ([(.bc, s.bc), (.de, s.de), (.ix, s.ix), (.sp, s.sp)] : List (IXPair × Word)),
      ∃ t, exec (.addIXPp x.1) s = .next t ∧ t.ix.toNat = (s.ix.toNat + x.2.toNat) % 65536 ∧
        PlainSumFlags16 s.f t.f s.ix x.2 ∧ t = { s with ix := t.ix, f := t.f, free := t.free }) ∧
    (∀ x ∈ ([(.bc, s.bc), (.de, s.de), (.iy, s.iy), (.sp, s.sp)] : List (IYPair × Word)),
      ∃ t, exec (.addIYRr x.1) s = .next t ∧ t.iy.toNat = (s.iy.toNat + x.2.toNat) % 65536 ∧
        PlainSumFlags16 s.f t.f s.iy x.2 ∧ t = { s with iy := t.iy, f := t.f, free := t.free })

/-- ADC HL,ss and SBC HL,ss: all six flags (40 R200; 49 R545; 00_scope.md R16). -/
def Obligations.AddSubtractWithCarryHL : Prop :=
  ∀ (s : State), ∀ x ∈ ([(.bc, s.bc), (.de, s.de), (.hl, s.hl), (.sp, s.sp)] : List (Pair × Word)),
    (∃ t, exec (.adcHLSs x.1) s = .next t ∧
      t.hl.toNat = (s.hl.toNat + x.2.toNat + s.f.c.toNat) % 65536 ∧ SumFlags16 t.f s.hl x.2 s.f.c ∧
      t = { s with h := t.h, l := t.l, f := t.f, free := t.free }) ∧
    (∃ t, exec (.sbcHLSs x.1) s = .next t ∧
      (t.hl.toNat : Int) = ((s.hl.toNat : Int) - x.2.toNat - s.f.c.toNat) % 65536 ∧
      DifferenceFlags16 t.f s.hl x.2 s.f.c ∧ t = { s with h := t.h, l := t.l, f := t.f, free := t.free })

/-- INC ss, DEC ss and the IX and IY forms: the pair alone changes, modulo 65536, and no flag
(43 R307, R309, R312; 42 R275 to R277). -/
def Obligations.IncDecPairs : Prop :=
  ∀ s : State,
    (∀ ss, ∃ t, exec (.incSs ss) s = .next t ∧ WritesPair s t ss (s.readPair ss + 1#16) ∧ t = s.withPairsOf t) ∧
    (∀ ss, ∃ t, exec (.decSs ss) s = .next t ∧ WritesPair s t ss (s.readPair ss - 1#16) ∧ t = s.withPairsOf t) ∧
    exec .incIX s = .next { s with ix := s.ix + 1#16 } ∧ exec .decIX s = .next { s with ix := s.ix - 1#16 } ∧
    exec .incIY s = .next { s with iy := s.iy + 1#16 } ∧ exec .decIY s = .next { s with iy := s.iy - 1#16 }

/-! ## Rotates, shifts and bits -/

/-- RLCA, RLA, RRCA, RRA: H and N are cleared, C takes the bit shifted out, S, Z and P/V stay
(48 R492, R497, R503, R508). -/
def Obligations.RotateAccumulator : Prop :=
  ∀ (s : State), ∀ x ∈ ([(.rlca, .rlc), (.rla, .rl), (.rrca, .rrc), (.rra, .rr)] : List (Instr × ShiftKind)),
    ∃ t, exec x.1 s = .next t ∧ t.a = x.2.result s.a s.f.c ∧
      t.f.named = { s.f.named with h := false, n := false, c := x.2.carry s.a } ∧
      t = { s with a := t.a, f := t.f, free := t.free }

/-- RLC, RL, RRC, RR, SLA, SRA and SRL of a register, of (HL), of (IX+d) and of (IY+d): the result, all six flags with H
and N cleared and the bit shifted out in C, and nothing else (48 R488 to R507; 49 R551 to R562). -/
def Obligations.RotatesAndShifts : Prop :=
  (∀ (s : State) (r : Reg),
     ∀ x ∈ ([(.rlcR r, .rlc), (.rlR r, .rl), (.rrcR r, .rrc), (.rrR r, .rr), (.slaR r, .sla), (.sraR r, .sra),
         (.srlR r, .srl)] : List (Instr × ShiftKind)),
       ∃ t, exec x.1 s = .next t ∧ WritesReg s t r (x.2.result (s.readReg r) s.f.c) ∧
         FlagsOfByte t.f (x.2.result (s.readReg r) s.f.c) ∧ t.f.h = false ∧ t.f.n = false ∧
         t.f.c = x.2.carry (s.readReg r) ∧ t = { s.withRegsOf t with f := t.f, free := t.free }) ∧
  ∀ (s : State) (d : Byte), Memory.wf s.mem = true →
    ∀ x ∈ ([(.rlcAtHL, .rlc, s.hl), (.rlcAtIX d, .rlc, s.addrIX d), (.rlcAtIY d, .rlc, s.addrIY d),
        (.rlAtHL, .rl, s.hl), (.rlAtIX d, .rl, s.addrIX d), (.rlAtIY d, .rl, s.addrIY d),
        (.rrcAtHL, .rrc, s.hl), (.rrcAtIX d, .rrc, s.addrIX d), (.rrcAtIY d, .rrc, s.addrIY d),
        (.rrAtHL, .rr, s.hl), (.rrAtIX d, .rr, s.addrIX d), (.rrAtIY d, .rr, s.addrIY d),
        (.slaAtHL, .sla, s.hl), (.slaAtIX d, .sla, s.addrIX d), (.slaAtIY d, .sla, s.addrIY d),
        (.sraAtHL, .sra, s.hl), (.sraAtIX d, .sra, s.addrIX d), (.sraAtIY d, .sra, s.addrIY d),
        (.srlAtHL, .srl, s.hl), (.srlAtIX d, .srl, s.addrIX d), (.srlAtIY d, .srl, s.addrIY d)] :
        List (Instr × ShiftKind × Word)),
      ∃ t, exec x.1 s = .next t ∧ StoresByte s t x.2.2 (x.2.1.result (s.read8 x.2.2) s.f.c) ∧
        FlagsOfByte t.f (x.2.1.result (s.read8 x.2.2) s.f.c) ∧ t.f.h = false ∧ t.f.n = false ∧
        t.f.c = x.2.1.carry (s.read8 x.2.2) ∧ t = { s with mem := t.mem, f := t.f, free := t.free }

/-- RLD and RRD: the decimal digits of A and of the byte at HL move; the flags come from the new A and C stays
(48 R498, R509). -/
def Obligations.RotateDigits : Prop :=
  ∀ s : State, Memory.wf s.mem = true →
    ∃ m, m = (s.read8 s.hl).toNat ∧
      ∀ x ∈ ([(.rld, m % 16 * 16 + s.a.toNat % 16, m / 16), (.rrd, s.a.toNat % 16 * 16 + m / 16, m % 16)] :
          List (Instr × Nat × Nat)),
        ∃ t, exec x.1 s = .next t ∧ StoresByte s t s.hl (BitVec.ofNat 8 x.2.1) ∧
          t.a.toNat = s.a.toNat / 16 * 16 + x.2.2 ∧ FlagsOfByte t.f t.a ∧ t.f.h = false ∧ t.f.n = false ∧
          t.f.c = s.f.c ∧ t = { s with a := t.a, mem := t.mem, f := t.f, free := t.free }

/-- BIT b, every form: Z is the complement of the bit, H is set, N is cleared, C stays, S and P/V are unknown
(41 R230 to R233). -/
def Obligations.BitTest : Prop :=
  ∀ (s : State) (b : BitVec 3) (r : Reg) (d : Byte),
    ∀ x ∈ ([(.bitBR b r, s.readReg r), (.bitBAtHL b, s.read8 s.hl), (.bitBAtIX b d, s.read8 (s.addrIX d)),
        (.bitBAtIY b d, s.read8 (s.addrIY d))] : List (Instr × Byte)),
      ∃ t, exec x.1 s = .next t ∧ t.f.z = !x.2.getLsbD b.toNat ∧ t.f.h = true ∧ t.f.n = false ∧ t.f.c = s.f.c ∧
        t = { s with f := t.f, free := t.free }

/-- SET b and RES b of a register, of (HL), of (IX+d) and of (IY+d): one bit of the operand changes, and no flag
(49 R547 to R550; 48 R480 to R483). -/
def Obligations.SetResetBit : Prop :=
  (∀ (s : State) (b : BitVec 3) (r : Reg),
     ∀ x ∈ ([(.setBR b r, true), (.resBR b r, false)] : List (Instr × Bool)),
       ∃ t v, exec x.1 s = .next t ∧
         (∀ k < 8, v.getLsbD k = if k = b.toNat then x.2 else (s.readReg r).getLsbD k) ∧
         WritesReg s t r v ∧ t = s.withRegsOf t) ∧
  ∀ (s : State) (b : BitVec 3) (d : Byte), Memory.wf s.mem = true →
    ∀ x ∈ ([(.setBAtHL b, true, s.hl), (.setBAtIX b d, true, s.addrIX d), (.setBAtIY b d, true, s.addrIY d),
        (.resBAtHL b, false, s.hl), (.resBAtIX b d, false, s.addrIX d), (.resBAtIY b d, false, s.addrIY d)] :
        List (Instr × Bool × Word)),
      ∃ t v, exec x.1 s = .next t ∧
        (∀ k < 8, v.getLsbD k = if k = b.toNat then x.2.1 else (s.read8 x.2.2).getLsbD k) ∧
        StoresByte s t x.2.2 v ∧ t = { s with mem := t.mem }

/-! ## Loads -/

/-- The loads of an 8-bit general register: the register alone changes, and no flag (46 R406 to R410; 45 R361, R362,
R364). -/
def Obligations.LoadRegister : Prop :=
  ∀ (s : State) (r q : Reg) (n d : Byte) (nn : Word),
    ∀ x ∈ ([(.ldRR r q, r, s.readReg q), (.ldRN r n, r, n), (.ldRAtHL r, r, s.read8 s.hl),
        (.ldRAtIX r d, r, s.read8 (s.addrIX d)), (.ldRAtIY r d, r, s.read8 (s.addrIY d)),
        (.ldAAtBC, .a, s.read8 s.bc), (.ldAAtDE, .a, s.read8 s.de), (.ldAAtNN nn, .a, s.read8 nn)] :
        List (Instr × Reg × Byte)),
      ∃ t, exec x.1 s = .next t ∧ WritesReg s t x.2.1 x.2.2 ∧ t = s.withRegsOf t

/-- The stores of a byte: one byte of memory changes and nothing else (45 R366 to R368, R372, R376, R377, R380, R381;
46 R400). -/
def Obligations.StoreByteForms : Prop :=
  ∀ (s : State) (r : Reg) (n d : Byte) (nn : Word), Memory.wf s.mem = true →
    ∀ x ∈ ([(.ldAtHLR r, s.hl, s.readReg r), (.ldAtIXR d r, s.addrIX d, s.readReg r),
        (.ldAtIYR d r, s.addrIY d, s.readReg r), (.ldAtHLN n, s.hl, n), (.ldAtIXN d n, s.addrIX d, n),
        (.ldAtIYN d n, s.addrIY d, n), (.ldAtBCA, s.bc, s.a), (.ldAtDEA, s.de, s.a), (.ldAtNNA nn, nn, s.a)] :
        List (Instr × Word × Byte)),
      ∃ t, exec x.1 s = .next t ∧ StoresByte s t x.2.1 x.2.2 ∧ t = { s with mem := t.mem }

/-- LD A,I and LD A,R with their flags, P/V being IFF2; LD I,A and LD R,A (45 R363, R365, R373; 46 R405). -/
def Obligations.LoadControlRegisters : Prop :=
  ∀ s : State,
    (∀ x ∈ ([(.ldAI, s.i), (.ldARefresh, s.r)] : List (Instr × Byte)),
      ∃ t, exec x.1 s = .next t ∧ t.a = x.2 ∧ t.f.s = x.2.getLsbD 7 ∧ (t.f.z = true ↔ x.2 = 0x00#8) ∧
        t.f.h = false ∧ t.f.pv = s.iff2 ∧ t.f.n = false ∧ t.f.c = s.f.c ∧
        t = { s with a := t.a, f := t.f, free := t.free }) ∧
    exec .ldIA s = .next { s with i := s.a } ∧ exec .ldRefreshA s = .next { s with r := s.a }

/-- The 16-bit loads: the pair, IX, IY or SP alone changes, and no flag; a word in memory has its low byte first
(45 R369 to R371, R374, R375, R378, R379; 46 R411 to R413). -/
def Obligations.LoadPairs : Prop :=
  ∀ (s : State) (dd : Pair) (nn : Word),
    (∀ x ∈ ([(.ldDdNN dd nn, dd, nn), (.ldDdAtNN dd nn, dd, mkWord (s.read8 (nn + 1#16)) (s.read8 nn)),
        (.ldHLAtNN nn, .hl, mkWord (s.read8 (nn + 1#16)) (s.read8 nn)), (.ldSPHL, .sp, s.hl),
        (.ldSPIX, .sp, s.ix), (.ldSPIY, .sp, s.iy)] : List (Instr × Pair × Word)),
      ∃ t, exec x.1 s = .next t ∧ WritesPair s t x.2.1 x.2.2 ∧ t = s.withPairsOf t) ∧
    exec (.ldIXNN nn) s = .next { s with ix := nn } ∧ exec (.ldIYNN nn) s = .next { s with iy := nn } ∧
    exec (.ldIXAtNN nn) s = .next { s with ix := mkWord (s.read8 (nn + 1#16)) (s.read8 nn) } ∧
    exec (.ldIYAtNN nn) s = .next { s with iy := mkWord (s.read8 (nn + 1#16)) (s.read8 nn) }

/-- The stores of a word at nn: low byte at nn, high byte at nn + 1, nothing else (46 R401 to R404). -/
def Obligations.StoreWordForms : Prop :=
  ∀ (s : State) (nn : Word), Memory.wf s.mem = true →
    ∀ x ∈ ([(.ldAtNNHL nn, s.hl), (.ldAtNNDd nn .bc, s.bc), (.ldAtNNDd nn .de, s.de), (.ldAtNNDd nn .hl, s.hl),
        (.ldAtNNDd nn .sp, s.sp), (.ldAtNNIX nn, s.ix), (.ldAtNNIY nn, s.iy)] : List (Instr × Word)),
      ∃ t, exec x.1 s = .next t ∧ StoresWord s t nn x.2 ∧ t = { s with mem := t.mem }

/-- PUSH and POP, every form. PUSH: the high byte goes to SP - 1, the low byte to SP - 2, SP goes down by 2. POP: the
byte at SP is the low one, the byte at SP + 1 the high one, SP goes up by 2; POP AF writes all eight bits of F
(47 R454 to R459; 00_scope.md R21; 10_state.md R51). -/
def Obligations.PushAndPop : Prop :=
  (∀ s : State, Memory.wf s.mem = true →
     ∀ x ∈ ([(.pushQq .bc, mkWord s.b s.c), (.pushQq .de, mkWord s.d s.e), (.pushQq .hl, mkWord s.h s.l),
         (.pushQq .af, mkWord s.a s.f.toByte), (.pushIX, s.ix), (.pushIY, s.iy)] : List (Instr × Word)),
       ∃ t, exec x.1 s = .next t ∧ StoresWord s t (s.sp - 2#16) x.2 ∧
         t = { s with mem := t.mem, sp := s.sp - 2#16 }) ∧
  ∀ (s : State) (lo hi : Byte), lo = s.read8 s.sp → hi = s.read8 (s.sp + 1#16) →
    exec (.popQq .bc) s = .next { s with b := hi, c := lo, sp := s.sp + 2#16 } ∧
    exec (.popQq .de) s = .next { s with d := hi, e := lo, sp := s.sp + 2#16 } ∧
    exec (.popQq .hl) s = .next { s with h := hi, l := lo, sp := s.sp + 2#16 } ∧
    exec (.popQq .af) s = .next { s with a := hi, f := Flags.ofByte lo, sp := s.sp + 2#16 } ∧
    exec .popIX s = .next { s with ix := mkWord hi lo, sp := s.sp + 2#16 } ∧
    exec .popIY s = .next { s with iy := mkWord hi lo, sp := s.sp + 2#16 }

/-! ## Exchanges -/

/-- EX AF,AF', EX DE,HL and EXX: encoding, operation and cycles; DD EB and FD EB are no instructions
(42 R286 to R288). -/
def Obligations.RegisterExchanges : Prop :=
  encode .exAFAF = [0x08#8] ∧ encode .exDEHL = [0xEB#8] ∧ encode .exx = [0xD9#8] ∧
  (∀ pre ∈ [0xDD#8, 0xFD#8], ∀ more, decode (pre :: 0xEB#8 :: more) = .error (.undefinedEncoding [pre, 0xEB#8])) ∧
  ∀ s : State, mCycles .exAFAF s = [4] ∧ mCycles .exDEHL s = [4] ∧ mCycles .exx s = [4] ∧
    exec .exAFAF s = .next { s with a := s.altA, f := s.altF, altA := s.a, altF := s.f } ∧
    exec .exDEHL s = .next { s with d := s.h, e := s.l, h := s.d, l := s.e } ∧
    exec .exx s = .next
      { s with
        b := s.altB, c := s.altC, d := s.altD, e := s.altE, h := s.altH, l := s.altL,
        altB := s.b, altC := s.c, altD := s.d, altE := s.e, altH := s.h, altL := s.l }

/-- EX (SP),HL, EX (SP),IX and EX (SP),IY: the word on the top of the stack and the register change places, SP stays
(42 R284, R285, R289). -/
def Obligations.StackExchanges : Prop :=
  ∀ s : State, Memory.wf s.mem = true →
    (∃ t, exec .exAtSPHL s = .next t ∧ StoresWord s t s.sp (mkWord s.h s.l) ∧
      t = { s with mem := t.mem, h := s.read8 (s.sp + 1#16), l := s.read8 s.sp }) ∧
    (∃ t, exec .exAtSPIX s = .next t ∧ StoresWord s t s.sp s.ix ∧
      t = { s with mem := t.mem, ix := mkWord (s.read8 (s.sp + 1#16)) (s.read8 s.sp) }) ∧
    (∃ t, exec .exAtSPIY s = .next t ∧ StoresWord s t s.sp s.iy ∧
      t = { s with mem := t.mem, iy := mkWord (s.read8 (s.sp + 1#16)) (s.read8 s.sp) })

/-! ## Block instructions -/

/-- LDI, LDD, LDIR and LDDR, one iteration: a byte moves from HL to DE, the pointers step, BC counts down, and the
repeating forms go back by 2 until BC is 0; a BC of 0 before counts to FFFFH (46 R414 to R417; 10_state.md R48). -/
def Obligations.BlockTransfer : Prop :=
  ∀ s : State, Memory.wf s.mem = true →
    ∀ x ∈ ([(.ldi, 1#16, false), (.ldd, -1#16, false), (.ldir, 1#16, true), (.lddr, -1#16, true)] :
        List (Instr × Word × Bool)),
      ∃ t, exec x.1 s = .next t ∧ StoresByte s t s.de (s.read8 s.hl) ∧ t.de = s.de + x.2.1 ∧
        t.hl = s.hl + x.2.1 ∧ t.bc = s.bc - 1#16 ∧
        t.pc = (if x.2.2 = true ∧ s.bc ≠ 1#16 then s.pc - 2#16 else s.pc) ∧
        t.f.named = { s.f.named with h := false, pv := decide (s.bc ≠ 1#16), n := false } ∧
        t = { s with b := t.b, c := t.c, d := t.d, e := t.e, h := t.h, l := t.l, mem := t.mem, pc := t.pc,
                     f := t.f, free := t.free }

/-- CPI, CPD, CPIR and CPDR, one iteration: A is compared with the byte at HL, HL steps, BC counts down, and the
repeating forms go back by 2 while BC is not 0 and A was not found; C stays, A and memory are not written
(41 R242 to R245; 10_state.md R48). -/
def Obligations.BlockSearch : Prop :=
  ∀ s : State,
    ∀ x ∈ ([(.cpi, 1#16, false), (.cpd, -1#16, false), (.cpir, 1#16, true), (.cpdr, -1#16, true)] :
        List (Instr × Word × Bool)),
      ∃ t v, exec x.1 s = .next t ∧ v = s.read8 s.hl ∧ t.hl = s.hl + x.2.1 ∧ t.bc = s.bc - 1#16 ∧
        t.pc = (if x.2.2 = true ∧ s.bc ≠ 1#16 ∧ s.a ≠ v then s.pc - 2#16 else s.pc) ∧
        (t.f.s = true ↔ 128 ≤ ((s.a.toNat : Int) - v.toNat) % 256) ∧ (t.f.z = true ↔ s.a = v) ∧
        (t.f.h = true ↔ s.a.toNat % 16 < v.toNat % 16) ∧ (t.f.pv = true ↔ s.bc ≠ 1#16) ∧ t.f.n = true ∧
        t.f.c = s.f.c ∧
        t = { s with b := t.b, c := t.c, h := t.h, l := t.l, pc := t.pc, f := t.f, free := t.free }

/-! ## Input and output -/

/-- IN A,(n), IN r,(C), OUT (n),A and OUT (C),r: the 16-bit I/O address the device sees, the byte it gives or takes (the
one that `IOSPACE` presents at that address, or a free value where it presents none: log entry 10), and the flags of IN
r,(C) (43 R304, R305; 47 R450, R451; 20_memory.md R81, R86). -/
def Obligations.PortAccess : Prop :=
  ∀ (s : State) (n : Byte) (r : Reg),
    (∃ t, exec (.inAN n) s = .next t ∧ (∀ v, s.presents (mkWord s.a n) v → t.a = v) ∧
      t = { s with a := t.a, bus := .ioRead (mkWord s.a n) t.a :: s.bus, ioSpace := s.ioSpaceAfterRead,
                   free := t.free }) ∧
    (∃ t v, exec (.inRC r) s = .next t ∧ (∀ w, s.presents (mkWord s.b s.c) w → v = w) ∧ WritesReg s t r v ∧
      FlagsOfByte t.f v ∧ t.f.h = false ∧ t.f.n = false ∧ t.f.c = s.f.c ∧
      t = { s.withRegsOf t with f := t.f, bus := .ioRead (mkWord s.b s.c) v :: s.bus,
                                ioSpace := s.ioSpaceAfterRead, free := t.free }) ∧
    exec (.outNA n) s = .next { s with bus := .ioWrite (mkWord s.a n) s.a :: s.bus } ∧
    exec (.outCR r) s = .next { s with bus := .ioWrite (mkWord s.b s.c) (s.readReg r) :: s.bus }

/-- INI, IND, INIR and INDR, one iteration: port read at B ++ C with the old B, then the byte goes to HL, B counts down
and HL steps; the repeating forms go back by 2 until B is 0 (43 R313 to R316; 92_eei_decisions.md D19). -/
def Obligations.BlockInput : Prop :=
  ∀ s : State, Memory.wf s.mem = true →
    ∀ x ∈ ([(.ini, 1#16, false), (.ind, -1#16, false), (.inir, 1#16, true), (.indr, -1#16, true)] :
        List (Instr × Word × Bool)),
      ∃ t v, exec x.1 s = .next t ∧ (∀ w, s.presents (mkWord s.b s.c) w → v = w) ∧ StoresByte s t s.hl v ∧
        t.hl = s.hl + x.2.1 ∧ t.pc = (if x.2.2 = true ∧ s.b ≠ 1#8 then s.pc - 2#16 else s.pc) ∧
        (t.f.z = true ↔ s.b = 1#8) ∧ t.f.n = true ∧ t.f.c = s.f.c ∧
        t = { s with b := s.b - 1#8, h := t.h, l := t.l, mem := t.mem, pc := t.pc, f := t.f,
                     bus := .ioRead (mkWord s.b s.c) v :: s.bus, ioSpace := s.ioSpaceAfterRead, free := t.free }

/-- OUTI, OUTD, OTIR and OTDR, one iteration: memory read at HL, B counts down, then the byte goes to the port at
B ++ C with the new B, and HL steps; the repeating forms go back by 2 until B is 0
(47 R448, R449, R452, R453; 92_eei_decisions.md D19). -/
def Obligations.BlockOutput : Prop :=
  ∀ s : State,
    ∀ x ∈ ([(.outi, 1#16, false), (.outd, -1#16, false), (.otir, 1#16, true), (.otdr, -1#16, true)] :
        List (Instr × Word × Bool)),
      ∃ t, exec x.1 s = .next t ∧ t.hl = s.hl + x.2.1 ∧
        t.pc = (if x.2.2 = true ∧ s.b ≠ 1#8 then s.pc - 2#16 else s.pc) ∧
        (t.f.z = true ↔ s.b = 1#8) ∧ t.f.n = true ∧ t.f.c = s.f.c ∧
        t = { s with b := s.b - 1#8, h := t.h, l := t.l, pc := t.pc, f := t.f,
                     bus := .ioWrite (mkWord (s.b - 1#8) s.c) (s.read8 s.hl) :: s.bus, free := t.free }

/-! ## Jumps, calls, returns and control: PC in `s` is `next`, past the instruction (10_state.md R46) -/

/-- JP, JR and DJNZ, every form: PC alone changes, and B in DJNZ (44 R340 to R350; 42 R279; 00_scope.md R20). -/
def Obligations.Jumps : Prop :=
  ∀ (s : State) (nn : Word) (disp : Byte),
    (∀ x ∈ ([(.jpNN nn, true, nn), (.jpHL, true, s.hl), (.jpIX, true, s.ix), (.jpIY, true, s.iy),
        (.jr disp, true, s.pc + disp.signExtend 16), (.jrC disp, s.f.c, s.pc + disp.signExtend 16),
        (.jrNC disp, !s.f.c, s.pc + disp.signExtend 16), (.jrZ disp, s.f.z, s.pc + disp.signExtend 16),
        (.jrNZ disp, !s.f.z, s.pc + disp.signExtend 16)] ++
        (conditionTable s.f).map (fun y => (.jpCcNN y.1 nn, y.2, nn)) : List (Instr × Bool × Word)),
      exec x.1 s = .next { s with pc := if x.2.1 = true then x.2.2 else s.pc }) ∧
    exec (.djnz disp) s = .next
      { s with b := s.b - 1#8, pc := if s.b = 1#8 then s.pc else s.pc + disp.signExtend 16 }

/-- CALL nn, CALL cc,nn and RST p: when taken, PC is pushed and control goes to the address; a call whose condition
fails does nothing (41 R234, R235; 48 R510). -/
def Obligations.Calls : Prop :=
  ∀ (s : State) (nn : Word) (p : Byte), Memory.wf s.mem = true →
    ∀ x ∈ ([(.callNN nn, true, nn), (.rst p, true, mkWord 0x00#8 p)] ++
        (conditionTable s.f).map (fun y => (.callCcNN y.1 nn, y.2, nn)) : List (Instr × Bool × Word)),
      (x.2.1 = true → ∃ t, exec x.1 s = .next t ∧ StoresWord s t (s.sp - 2#16) s.pc ∧
        t = { s with mem := t.mem, sp := s.sp - 2#16, pc := x.2.2 }) ∧
      (x.2.1 = false → exec x.1 s = .next s)

/-- RET, RET cc, RETI and RETN: when taken, PC is popped; RETI and RETN also copy IFF2 to IFF1, and the devices see the
RETI (48 R484 to R487; 60_exceptions.md R613). -/
def Obligations.Returns : Prop :=
  ∀ (s : State) (top : Word), top = mkWord (s.read8 (s.sp + 1#16)) (s.read8 s.sp) →
    exec .ret s = .next { s with pc := top, sp := s.sp + 2#16 } ∧
    (∀ x ∈ conditionTable s.f,
      exec (.retCc x.1) s = .next (if x.2 = true then { s with pc := top, sp := s.sp + 2#16 } else s)) ∧
    exec .reti s = .next { s with pc := top, sp := s.sp + 2#16, iff1 := s.iff2, bus := .reti :: s.bus } ∧
    exec .retn s = .next { s with pc := top, sp := s.sp + 2#16, iff1 := s.iff2 }

/-- NOP, HALT, DI, EI and IM 0 to IM 2 (47 R441; 43 R300 to R303; 42 R278, R283). -/
def Obligations.CpuControl : Prop :=
  ∀ s : State,
    exec .nop s = .next s ∧ exec .halt s = .next { s with halted := true } ∧
    exec .di s = .next { s with iff1 := false, iff2 := false, eiShadow := false } ∧
    exec .ei s = .next { s with iff1 := true, iff2 := true, eiShadow := true } ∧
    exec .im0 s = .next { s with im := .im0 } ∧ exec .im1 s = .next { s with im := .im1 } ∧
    exec .im2 s = .next { s with im := .im2 }
end

