-- ==== Sys2Proof/Laws/State.lean ====
section
/-! SUPPORT. One lemma for each field and each named update of the state, so that no proof unfolds a record update. -/

namespace Sys2Proof.Machine

/-! ## `write8` -/

@[simp] theorem State.write8_a (s : State) (x : Word) (v : Byte) : (s.write8 x v).a = s.a := rfl
@[simp] theorem State.write8_f (s : State) (x : Word) (v : Byte) : (s.write8 x v).f = s.f := rfl
@[simp] theorem State.write8_b (s : State) (x : Word) (v : Byte) : (s.write8 x v).b = s.b := rfl
@[simp] theorem State.write8_c (s : State) (x : Word) (v : Byte) : (s.write8 x v).c = s.c := rfl
@[simp] theorem State.write8_d (s : State) (x : Word) (v : Byte) : (s.write8 x v).d = s.d := rfl
@[simp] theorem State.write8_e (s : State) (x : Word) (v : Byte) : (s.write8 x v).e = s.e := rfl
@[simp] theorem State.write8_h (s : State) (x : Word) (v : Byte) : (s.write8 x v).h = s.h := rfl
@[simp] theorem State.write8_l (s : State) (x : Word) (v : Byte) : (s.write8 x v).l = s.l := rfl
@[simp] theorem State.write8_altA (s : State) (x : Word) (v : Byte) : (s.write8 x v).altA = s.altA := rfl
@[simp] theorem State.write8_altF (s : State) (x : Word) (v : Byte) : (s.write8 x v).altF = s.altF := rfl
@[simp] theorem State.write8_altB (s : State) (x : Word) (v : Byte) : (s.write8 x v).altB = s.altB := rfl
@[simp] theorem State.write8_altC (s : State) (x : Word) (v : Byte) : (s.write8 x v).altC = s.altC := rfl
@[simp] theorem State.write8_altD (s : State) (x : Word) (v : Byte) : (s.write8 x v).altD = s.altD := rfl
@[simp] theorem State.write8_altE (s : State) (x : Word) (v : Byte) : (s.write8 x v).altE = s.altE := rfl
@[simp] theorem State.write8_altH (s : State) (x : Word) (v : Byte) : (s.write8 x v).altH = s.altH := rfl
@[simp] theorem State.write8_altL (s : State) (x : Word) (v : Byte) : (s.write8 x v).altL = s.altL := rfl
@[simp] theorem State.write8_ix (s : State) (x : Word) (v : Byte) : (s.write8 x v).ix = s.ix := rfl
@[simp] theorem State.write8_iy (s : State) (x : Word) (v : Byte) : (s.write8 x v).iy = s.iy := rfl
@[simp] theorem State.write8_sp (s : State) (x : Word) (v : Byte) : (s.write8 x v).sp = s.sp := rfl
@[simp] theorem State.write8_pc (s : State) (x : Word) (v : Byte) : (s.write8 x v).pc = s.pc := rfl
@[simp] theorem State.write8_i (s : State) (x : Word) (v : Byte) : (s.write8 x v).i = s.i := rfl
@[simp] theorem State.write8_r (s : State) (x : Word) (v : Byte) : (s.write8 x v).r = s.r := rfl
@[simp] theorem State.write8_iff1 (s : State) (x : Word) (v : Byte) : (s.write8 x v).iff1 = s.iff1 := rfl
@[simp] theorem State.write8_iff2 (s : State) (x : Word) (v : Byte) : (s.write8 x v).iff2 = s.iff2 := rfl
@[simp] theorem State.write8_im (s : State) (x : Word) (v : Byte) : (s.write8 x v).im = s.im := rfl
@[simp] theorem State.write8_halted (s : State) (x : Word) (v : Byte) : (s.write8 x v).halted = s.halted := rfl
@[simp] theorem State.write8_eiShadow (s : State) (x : Word) (v : Byte) : (s.write8 x v).eiShadow = s.eiShadow := rfl
@[simp] theorem State.write8_nmiPending (s : State) (x : Word) (v : Byte) : (s.write8 x v).nmiPending = s.nmiPending := rfl
@[simp] theorem State.write8_mem (s : State) (x : Word) (v : Byte) : (s.write8 x v).mem = s.memAfter x v := rfl
@[simp] theorem State.write8_params (s : State) (x : Word) (v : Byte) : (s.write8 x v).params = s.params := rfl
@[simp] theorem State.write8_inputs (s : State) (x : Word) (v : Byte) : (s.write8 x v).inputs = s.inputs := rfl
@[simp] theorem State.write8_ioSpace (s : State) (x : Word) (v : Byte) : (s.write8 x v).ioSpace = s.ioSpace := rfl
@[simp] theorem State.write8_bus (s : State) (x : Word) (v : Byte) : (s.write8 x v).bus = s.bus := rfl
@[simp] theorem State.write8_free (s : State) (x : Word) (v : Byte) : (s.write8 x v).free = s.free := rfl

/-! ## `storeFlags` -/

@[simp] theorem State.storeFlags_a (s : State) (g : NamedFlags) : (s.storeFlags g).a = s.a := rfl
@[simp] theorem State.storeFlags_f (s : State) (g : NamedFlags) : (s.storeFlags g).f = s.freshFlags.withNamed g := rfl
@[simp] theorem State.storeFlags_b (s : State) (g : NamedFlags) : (s.storeFlags g).b = s.b := rfl
@[simp] theorem State.storeFlags_c (s : State) (g : NamedFlags) : (s.storeFlags g).c = s.c := rfl
@[simp] theorem State.storeFlags_d (s : State) (g : NamedFlags) : (s.storeFlags g).d = s.d := rfl
@[simp] theorem State.storeFlags_e (s : State) (g : NamedFlags) : (s.storeFlags g).e = s.e := rfl
@[simp] theorem State.storeFlags_h (s : State) (g : NamedFlags) : (s.storeFlags g).h = s.h := rfl
@[simp] theorem State.storeFlags_l (s : State) (g : NamedFlags) : (s.storeFlags g).l = s.l := rfl
@[simp] theorem State.storeFlags_altA (s : State) (g : NamedFlags) : (s.storeFlags g).altA = s.altA := rfl
@[simp] theorem State.storeFlags_altF (s : State) (g : NamedFlags) : (s.storeFlags g).altF = s.altF := rfl
@[simp] theorem State.storeFlags_altB (s : State) (g : NamedFlags) : (s.storeFlags g).altB = s.altB := rfl
@[simp] theorem State.storeFlags_altC (s : State) (g : NamedFlags) : (s.storeFlags g).altC = s.altC := rfl
@[simp] theorem State.storeFlags_altD (s : State) (g : NamedFlags) : (s.storeFlags g).altD = s.altD := rfl
@[simp] theorem State.storeFlags_altE (s : State) (g : NamedFlags) : (s.storeFlags g).altE = s.altE := rfl
@[simp] theorem State.storeFlags_altH (s : State) (g : NamedFlags) : (s.storeFlags g).altH = s.altH := rfl
@[simp] theorem State.storeFlags_altL (s : State) (g : NamedFlags) : (s.storeFlags g).altL = s.altL := rfl
@[simp] theorem State.storeFlags_ix (s : State) (g : NamedFlags) : (s.storeFlags g).ix = s.ix := rfl
@[simp] theorem State.storeFlags_iy (s : State) (g : NamedFlags) : (s.storeFlags g).iy = s.iy := rfl
@[simp] theorem State.storeFlags_sp (s : State) (g : NamedFlags) : (s.storeFlags g).sp = s.sp := rfl
@[simp] theorem State.storeFlags_pc (s : State) (g : NamedFlags) : (s.storeFlags g).pc = s.pc := rfl
@[simp] theorem State.storeFlags_i (s : State) (g : NamedFlags) : (s.storeFlags g).i = s.i := rfl
@[simp] theorem State.storeFlags_r (s : State) (g : NamedFlags) : (s.storeFlags g).r = s.r := rfl
@[simp] theorem State.storeFlags_iff1 (s : State) (g : NamedFlags) : (s.storeFlags g).iff1 = s.iff1 := rfl
@[simp] theorem State.storeFlags_iff2 (s : State) (g : NamedFlags) : (s.storeFlags g).iff2 = s.iff2 := rfl
@[simp] theorem State.storeFlags_im (s : State) (g : NamedFlags) : (s.storeFlags g).im = s.im := rfl
@[simp] theorem State.storeFlags_halted (s : State) (g : NamedFlags) : (s.storeFlags g).halted = s.halted := rfl
@[simp] theorem State.storeFlags_eiShadow (s : State) (g : NamedFlags) : (s.storeFlags g).eiShadow = s.eiShadow := rfl
@[simp] theorem State.storeFlags_nmiPending (s : State) (g : NamedFlags) : (s.storeFlags g).nmiPending = s.nmiPending := rfl
@[simp] theorem State.storeFlags_mem (s : State) (g : NamedFlags) : (s.storeFlags g).mem = s.mem := rfl
@[simp] theorem State.storeFlags_params (s : State) (g : NamedFlags) : (s.storeFlags g).params = s.params := rfl
@[simp] theorem State.storeFlags_inputs (s : State) (g : NamedFlags) : (s.storeFlags g).inputs = s.inputs := rfl
@[simp] theorem State.storeFlags_ioSpace (s : State) (g : NamedFlags) : (s.storeFlags g).ioSpace = s.ioSpace := rfl
@[simp] theorem State.storeFlags_bus (s : State) (g : NamedFlags) : (s.storeFlags g).bus = s.bus := rfl
@[simp] theorem State.storeFlags_free (s : State) (g : NamedFlags) : (s.storeFlags g).free = s.free + 1 := rfl

/-! ## `setBC` -/

@[simp] theorem State.setBC_a (s : State) (v : Word) : (s.setBC v).a = s.a := rfl
@[simp] theorem State.setBC_f (s : State) (v : Word) : (s.setBC v).f = s.f := rfl
@[simp] theorem State.setBC_b (s : State) (v : Word) : (s.setBC v).b = hiByte v := rfl
@[simp] theorem State.setBC_c (s : State) (v : Word) : (s.setBC v).c = loByte v := rfl
@[simp] theorem State.setBC_d (s : State) (v : Word) : (s.setBC v).d = s.d := rfl
@[simp] theorem State.setBC_e (s : State) (v : Word) : (s.setBC v).e = s.e := rfl
@[simp] theorem State.setBC_h (s : State) (v : Word) : (s.setBC v).h = s.h := rfl
@[simp] theorem State.setBC_l (s : State) (v : Word) : (s.setBC v).l = s.l := rfl
@[simp] theorem State.setBC_altA (s : State) (v : Word) : (s.setBC v).altA = s.altA := rfl
@[simp] theorem State.setBC_altF (s : State) (v : Word) : (s.setBC v).altF = s.altF := rfl
@[simp] theorem State.setBC_altB (s : State) (v : Word) : (s.setBC v).altB = s.altB := rfl
@[simp] theorem State.setBC_altC (s : State) (v : Word) : (s.setBC v).altC = s.altC := rfl
@[simp] theorem State.setBC_altD (s : State) (v : Word) : (s.setBC v).altD = s.altD := rfl
@[simp] theorem State.setBC_altE (s : State) (v : Word) : (s.setBC v).altE = s.altE := rfl
@[simp] theorem State.setBC_altH (s : State) (v : Word) : (s.setBC v).altH = s.altH := rfl
@[simp] theorem State.setBC_altL (s : State) (v : Word) : (s.setBC v).altL = s.altL := rfl
@[simp] theorem State.setBC_ix (s : State) (v : Word) : (s.setBC v).ix = s.ix := rfl
@[simp] theorem State.setBC_iy (s : State) (v : Word) : (s.setBC v).iy = s.iy := rfl
@[simp] theorem State.setBC_sp (s : State) (v : Word) : (s.setBC v).sp = s.sp := rfl
@[simp] theorem State.setBC_pc (s : State) (v : Word) : (s.setBC v).pc = s.pc := rfl
@[simp] theorem State.setBC_i (s : State) (v : Word) : (s.setBC v).i = s.i := rfl
@[simp] theorem State.setBC_r (s : State) (v : Word) : (s.setBC v).r = s.r := rfl
@[simp] theorem State.setBC_iff1 (s : State) (v : Word) : (s.setBC v).iff1 = s.iff1 := rfl
@[simp] theorem State.setBC_iff2 (s : State) (v : Word) : (s.setBC v).iff2 = s.iff2 := rfl
@[simp] theorem State.setBC_im (s : State) (v : Word) : (s.setBC v).im = s.im := rfl
@[simp] theorem State.setBC_halted (s : State) (v : Word) : (s.setBC v).halted = s.halted := rfl
@[simp] theorem State.setBC_eiShadow (s : State) (v : Word) : (s.setBC v).eiShadow = s.eiShadow := rfl
@[simp] theorem State.setBC_nmiPending (s : State) (v : Word) : (s.setBC v).nmiPending = s.nmiPending := rfl
@[simp] theorem State.setBC_mem (s : State) (v : Word) : (s.setBC v).mem = s.mem := rfl
@[simp] theorem State.setBC_params (s : State) (v : Word) : (s.setBC v).params = s.params := rfl
@[simp] theorem State.setBC_inputs (s : State) (v : Word) : (s.setBC v).inputs = s.inputs := rfl
@[simp] theorem State.setBC_ioSpace (s : State) (v : Word) : (s.setBC v).ioSpace = s.ioSpace := rfl
@[simp] theorem State.setBC_bus (s : State) (v : Word) : (s.setBC v).bus = s.bus := rfl
@[simp] theorem State.setBC_free (s : State) (v : Word) : (s.setBC v).free = s.free := rfl

/-! ## `setDE` -/

@[simp] theorem State.setDE_a (s : State) (v : Word) : (s.setDE v).a = s.a := rfl
@[simp] theorem State.setDE_f (s : State) (v : Word) : (s.setDE v).f = s.f := rfl
@[simp] theorem State.setDE_b (s : State) (v : Word) : (s.setDE v).b = s.b := rfl
@[simp] theorem State.setDE_c (s : State) (v : Word) : (s.setDE v).c = s.c := rfl
@[simp] theorem State.setDE_d (s : State) (v : Word) : (s.setDE v).d = hiByte v := rfl
@[simp] theorem State.setDE_e (s : State) (v : Word) : (s.setDE v).e = loByte v := rfl
@[simp] theorem State.setDE_h (s : State) (v : Word) : (s.setDE v).h = s.h := rfl
@[simp] theorem State.setDE_l (s : State) (v : Word) : (s.setDE v).l = s.l := rfl
@[simp] theorem State.setDE_altA (s : State) (v : Word) : (s.setDE v).altA = s.altA := rfl
@[simp] theorem State.setDE_altF (s : State) (v : Word) : (s.setDE v).altF = s.altF := rfl
@[simp] theorem State.setDE_altB (s : State) (v : Word) : (s.setDE v).altB = s.altB := rfl
@[simp] theorem State.setDE_altC (s : State) (v : Word) : (s.setDE v).altC = s.altC := rfl
@[simp] theorem State.setDE_altD (s : State) (v : Word) : (s.setDE v).altD = s.altD := rfl
@[simp] theorem State.setDE_altE (s : State) (v : Word) : (s.setDE v).altE = s.altE := rfl
@[simp] theorem State.setDE_altH (s : State) (v : Word) : (s.setDE v).altH = s.altH := rfl
@[simp] theorem State.setDE_altL (s : State) (v : Word) : (s.setDE v).altL = s.altL := rfl
@[simp] theorem State.setDE_ix (s : State) (v : Word) : (s.setDE v).ix = s.ix := rfl
@[simp] theorem State.setDE_iy (s : State) (v : Word) : (s.setDE v).iy = s.iy := rfl
@[simp] theorem State.setDE_sp (s : State) (v : Word) : (s.setDE v).sp = s.sp := rfl
@[simp] theorem State.setDE_pc (s : State) (v : Word) : (s.setDE v).pc = s.pc := rfl
@[simp] theorem State.setDE_i (s : State) (v : Word) : (s.setDE v).i = s.i := rfl
@[simp] theorem State.setDE_r (s : State) (v : Word) : (s.setDE v).r = s.r := rfl
@[simp] theorem State.setDE_iff1 (s : State) (v : Word) : (s.setDE v).iff1 = s.iff1 := rfl
@[simp] theorem State.setDE_iff2 (s : State) (v : Word) : (s.setDE v).iff2 = s.iff2 := rfl
@[simp] theorem State.setDE_im (s : State) (v : Word) : (s.setDE v).im = s.im := rfl
@[simp] theorem State.setDE_halted (s : State) (v : Word) : (s.setDE v).halted = s.halted := rfl
@[simp] theorem State.setDE_eiShadow (s : State) (v : Word) : (s.setDE v).eiShadow = s.eiShadow := rfl
@[simp] theorem State.setDE_nmiPending (s : State) (v : Word) : (s.setDE v).nmiPending = s.nmiPending := rfl
@[simp] theorem State.setDE_mem (s : State) (v : Word) : (s.setDE v).mem = s.mem := rfl
@[simp] theorem State.setDE_params (s : State) (v : Word) : (s.setDE v).params = s.params := rfl
@[simp] theorem State.setDE_inputs (s : State) (v : Word) : (s.setDE v).inputs = s.inputs := rfl
@[simp] theorem State.setDE_ioSpace (s : State) (v : Word) : (s.setDE v).ioSpace = s.ioSpace := rfl
@[simp] theorem State.setDE_bus (s : State) (v : Word) : (s.setDE v).bus = s.bus := rfl
@[simp] theorem State.setDE_free (s : State) (v : Word) : (s.setDE v).free = s.free := rfl

/-! ## `setHL` -/

@[simp] theorem State.setHL_a (s : State) (v : Word) : (s.setHL v).a = s.a := rfl
@[simp] theorem State.setHL_f (s : State) (v : Word) : (s.setHL v).f = s.f := rfl
@[simp] theorem State.setHL_b (s : State) (v : Word) : (s.setHL v).b = s.b := rfl
@[simp] theorem State.setHL_c (s : State) (v : Word) : (s.setHL v).c = s.c := rfl
@[simp] theorem State.setHL_d (s : State) (v : Word) : (s.setHL v).d = s.d := rfl
@[simp] theorem State.setHL_e (s : State) (v : Word) : (s.setHL v).e = s.e := rfl
@[simp] theorem State.setHL_h (s : State) (v : Word) : (s.setHL v).h = hiByte v := rfl
@[simp] theorem State.setHL_l (s : State) (v : Word) : (s.setHL v).l = loByte v := rfl
@[simp] theorem State.setHL_altA (s : State) (v : Word) : (s.setHL v).altA = s.altA := rfl
@[simp] theorem State.setHL_altF (s : State) (v : Word) : (s.setHL v).altF = s.altF := rfl
@[simp] theorem State.setHL_altB (s : State) (v : Word) : (s.setHL v).altB = s.altB := rfl
@[simp] theorem State.setHL_altC (s : State) (v : Word) : (s.setHL v).altC = s.altC := rfl
@[simp] theorem State.setHL_altD (s : State) (v : Word) : (s.setHL v).altD = s.altD := rfl
@[simp] theorem State.setHL_altE (s : State) (v : Word) : (s.setHL v).altE = s.altE := rfl
@[simp] theorem State.setHL_altH (s : State) (v : Word) : (s.setHL v).altH = s.altH := rfl
@[simp] theorem State.setHL_altL (s : State) (v : Word) : (s.setHL v).altL = s.altL := rfl
@[simp] theorem State.setHL_ix (s : State) (v : Word) : (s.setHL v).ix = s.ix := rfl
@[simp] theorem State.setHL_iy (s : State) (v : Word) : (s.setHL v).iy = s.iy := rfl
@[simp] theorem State.setHL_sp (s : State) (v : Word) : (s.setHL v).sp = s.sp := rfl
@[simp] theorem State.setHL_pc (s : State) (v : Word) : (s.setHL v).pc = s.pc := rfl
@[simp] theorem State.setHL_i (s : State) (v : Word) : (s.setHL v).i = s.i := rfl
@[simp] theorem State.setHL_r (s : State) (v : Word) : (s.setHL v).r = s.r := rfl
@[simp] theorem State.setHL_iff1 (s : State) (v : Word) : (s.setHL v).iff1 = s.iff1 := rfl
@[simp] theorem State.setHL_iff2 (s : State) (v : Word) : (s.setHL v).iff2 = s.iff2 := rfl
@[simp] theorem State.setHL_im (s : State) (v : Word) : (s.setHL v).im = s.im := rfl
@[simp] theorem State.setHL_halted (s : State) (v : Word) : (s.setHL v).halted = s.halted := rfl
@[simp] theorem State.setHL_eiShadow (s : State) (v : Word) : (s.setHL v).eiShadow = s.eiShadow := rfl
@[simp] theorem State.setHL_nmiPending (s : State) (v : Word) : (s.setHL v).nmiPending = s.nmiPending := rfl
@[simp] theorem State.setHL_mem (s : State) (v : Word) : (s.setHL v).mem = s.mem := rfl
@[simp] theorem State.setHL_params (s : State) (v : Word) : (s.setHL v).params = s.params := rfl
@[simp] theorem State.setHL_inputs (s : State) (v : Word) : (s.setHL v).inputs = s.inputs := rfl
@[simp] theorem State.setHL_ioSpace (s : State) (v : Word) : (s.setHL v).ioSpace = s.ioSpace := rfl
@[simp] theorem State.setHL_bus (s : State) (v : Word) : (s.setHL v).bus = s.bus := rfl
@[simp] theorem State.setHL_free (s : State) (v : Word) : (s.setHL v).free = s.free := rfl

/-! ## `setAF` -/

@[simp] theorem State.setAF_a (s : State) (v : Word) : (s.setAF v).a = hiByte v := rfl
@[simp] theorem State.setAF_f (s : State) (v : Word) : (s.setAF v).f = Flags.ofByte (loByte v) := rfl
@[simp] theorem State.setAF_b (s : State) (v : Word) : (s.setAF v).b = s.b := rfl
@[simp] theorem State.setAF_c (s : State) (v : Word) : (s.setAF v).c = s.c := rfl
@[simp] theorem State.setAF_d (s : State) (v : Word) : (s.setAF v).d = s.d := rfl
@[simp] theorem State.setAF_e (s : State) (v : Word) : (s.setAF v).e = s.e := rfl
@[simp] theorem State.setAF_h (s : State) (v : Word) : (s.setAF v).h = s.h := rfl
@[simp] theorem State.setAF_l (s : State) (v : Word) : (s.setAF v).l = s.l := rfl
@[simp] theorem State.setAF_altA (s : State) (v : Word) : (s.setAF v).altA = s.altA := rfl
@[simp] theorem State.setAF_altF (s : State) (v : Word) : (s.setAF v).altF = s.altF := rfl
@[simp] theorem State.setAF_altB (s : State) (v : Word) : (s.setAF v).altB = s.altB := rfl
@[simp] theorem State.setAF_altC (s : State) (v : Word) : (s.setAF v).altC = s.altC := rfl
@[simp] theorem State.setAF_altD (s : State) (v : Word) : (s.setAF v).altD = s.altD := rfl
@[simp] theorem State.setAF_altE (s : State) (v : Word) : (s.setAF v).altE = s.altE := rfl
@[simp] theorem State.setAF_altH (s : State) (v : Word) : (s.setAF v).altH = s.altH := rfl
@[simp] theorem State.setAF_altL (s : State) (v : Word) : (s.setAF v).altL = s.altL := rfl
@[simp] theorem State.setAF_ix (s : State) (v : Word) : (s.setAF v).ix = s.ix := rfl
@[simp] theorem State.setAF_iy (s : State) (v : Word) : (s.setAF v).iy = s.iy := rfl
@[simp] theorem State.setAF_sp (s : State) (v : Word) : (s.setAF v).sp = s.sp := rfl
@[simp] theorem State.setAF_pc (s : State) (v : Word) : (s.setAF v).pc = s.pc := rfl
@[simp] theorem State.setAF_i (s : State) (v : Word) : (s.setAF v).i = s.i := rfl
@[simp] theorem State.setAF_r (s : State) (v : Word) : (s.setAF v).r = s.r := rfl
@[simp] theorem State.setAF_iff1 (s : State) (v : Word) : (s.setAF v).iff1 = s.iff1 := rfl
@[simp] theorem State.setAF_iff2 (s : State) (v : Word) : (s.setAF v).iff2 = s.iff2 := rfl
@[simp] theorem State.setAF_im (s : State) (v : Word) : (s.setAF v).im = s.im := rfl
@[simp] theorem State.setAF_halted (s : State) (v : Word) : (s.setAF v).halted = s.halted := rfl
@[simp] theorem State.setAF_eiShadow (s : State) (v : Word) : (s.setAF v).eiShadow = s.eiShadow := rfl
@[simp] theorem State.setAF_nmiPending (s : State) (v : Word) : (s.setAF v).nmiPending = s.nmiPending := rfl
@[simp] theorem State.setAF_mem (s : State) (v : Word) : (s.setAF v).mem = s.mem := rfl
@[simp] theorem State.setAF_params (s : State) (v : Word) : (s.setAF v).params = s.params := rfl
@[simp] theorem State.setAF_inputs (s : State) (v : Word) : (s.setAF v).inputs = s.inputs := rfl
@[simp] theorem State.setAF_ioSpace (s : State) (v : Word) : (s.setAF v).ioSpace = s.ioSpace := rfl
@[simp] theorem State.setAF_bus (s : State) (v : Word) : (s.setAF v).bus = s.bus := rfl
@[simp] theorem State.setAF_free (s : State) (v : Word) : (s.setAF v).free = s.free := rfl

/-! ## `popped` -/

@[simp] theorem State.popped_a (s : State) : (s.popped).a = s.a := rfl
@[simp] theorem State.popped_f (s : State) : (s.popped).f = s.f := rfl
@[simp] theorem State.popped_b (s : State) : (s.popped).b = s.b := rfl
@[simp] theorem State.popped_c (s : State) : (s.popped).c = s.c := rfl
@[simp] theorem State.popped_d (s : State) : (s.popped).d = s.d := rfl
@[simp] theorem State.popped_e (s : State) : (s.popped).e = s.e := rfl
@[simp] theorem State.popped_h (s : State) : (s.popped).h = s.h := rfl
@[simp] theorem State.popped_l (s : State) : (s.popped).l = s.l := rfl
@[simp] theorem State.popped_altA (s : State) : (s.popped).altA = s.altA := rfl
@[simp] theorem State.popped_altF (s : State) : (s.popped).altF = s.altF := rfl
@[simp] theorem State.popped_altB (s : State) : (s.popped).altB = s.altB := rfl
@[simp] theorem State.popped_altC (s : State) : (s.popped).altC = s.altC := rfl
@[simp] theorem State.popped_altD (s : State) : (s.popped).altD = s.altD := rfl
@[simp] theorem State.popped_altE (s : State) : (s.popped).altE = s.altE := rfl
@[simp] theorem State.popped_altH (s : State) : (s.popped).altH = s.altH := rfl
@[simp] theorem State.popped_altL (s : State) : (s.popped).altL = s.altL := rfl
@[simp] theorem State.popped_ix (s : State) : (s.popped).ix = s.ix := rfl
@[simp] theorem State.popped_iy (s : State) : (s.popped).iy = s.iy := rfl
@[simp] theorem State.popped_sp (s : State) : (s.popped).sp = s.sp + 2#16 := rfl
@[simp] theorem State.popped_pc (s : State) : (s.popped).pc = s.pc := rfl
@[simp] theorem State.popped_i (s : State) : (s.popped).i = s.i := rfl
@[simp] theorem State.popped_r (s : State) : (s.popped).r = s.r := rfl
@[simp] theorem State.popped_iff1 (s : State) : (s.popped).iff1 = s.iff1 := rfl
@[simp] theorem State.popped_iff2 (s : State) : (s.popped).iff2 = s.iff2 := rfl
@[simp] theorem State.popped_im (s : State) : (s.popped).im = s.im := rfl
@[simp] theorem State.popped_halted (s : State) : (s.popped).halted = s.halted := rfl
@[simp] theorem State.popped_eiShadow (s : State) : (s.popped).eiShadow = s.eiShadow := rfl
@[simp] theorem State.popped_nmiPending (s : State) : (s.popped).nmiPending = s.nmiPending := rfl
@[simp] theorem State.popped_mem (s : State) : (s.popped).mem = s.mem := rfl
@[simp] theorem State.popped_params (s : State) : (s.popped).params = s.params := rfl
@[simp] theorem State.popped_inputs (s : State) : (s.popped).inputs = s.inputs := rfl
@[simp] theorem State.popped_ioSpace (s : State) : (s.popped).ioSpace = s.ioSpace := rfl
@[simp] theorem State.popped_bus (s : State) : (s.popped).bus = s.bus := rfl
@[simp] theorem State.popped_free (s : State) : (s.popped).free = s.free := rfl

/-! ## `drawn` -/

@[simp] theorem State.drawn_a (s : State) : (s.drawn).a = s.a := rfl
@[simp] theorem State.drawn_f (s : State) : (s.drawn).f = s.f := rfl
@[simp] theorem State.drawn_b (s : State) : (s.drawn).b = s.b := rfl
@[simp] theorem State.drawn_c (s : State) : (s.drawn).c = s.c := rfl
@[simp] theorem State.drawn_d (s : State) : (s.drawn).d = s.d := rfl
@[simp] theorem State.drawn_e (s : State) : (s.drawn).e = s.e := rfl
@[simp] theorem State.drawn_h (s : State) : (s.drawn).h = s.h := rfl
@[simp] theorem State.drawn_l (s : State) : (s.drawn).l = s.l := rfl
@[simp] theorem State.drawn_altA (s : State) : (s.drawn).altA = s.altA := rfl
@[simp] theorem State.drawn_altF (s : State) : (s.drawn).altF = s.altF := rfl
@[simp] theorem State.drawn_altB (s : State) : (s.drawn).altB = s.altB := rfl
@[simp] theorem State.drawn_altC (s : State) : (s.drawn).altC = s.altC := rfl
@[simp] theorem State.drawn_altD (s : State) : (s.drawn).altD = s.altD := rfl
@[simp] theorem State.drawn_altE (s : State) : (s.drawn).altE = s.altE := rfl
@[simp] theorem State.drawn_altH (s : State) : (s.drawn).altH = s.altH := rfl
@[simp] theorem State.drawn_altL (s : State) : (s.drawn).altL = s.altL := rfl
@[simp] theorem State.drawn_ix (s : State) : (s.drawn).ix = s.ix := rfl
@[simp] theorem State.drawn_iy (s : State) : (s.drawn).iy = s.iy := rfl
@[simp] theorem State.drawn_sp (s : State) : (s.drawn).sp = s.sp := rfl
@[simp] theorem State.drawn_pc (s : State) : (s.drawn).pc = s.pc := rfl
@[simp] theorem State.drawn_i (s : State) : (s.drawn).i = s.i := rfl
@[simp] theorem State.drawn_r (s : State) : (s.drawn).r = s.r := rfl
@[simp] theorem State.drawn_iff1 (s : State) : (s.drawn).iff1 = s.iff1 := rfl
@[simp] theorem State.drawn_iff2 (s : State) : (s.drawn).iff2 = s.iff2 := rfl
@[simp] theorem State.drawn_im (s : State) : (s.drawn).im = s.im := rfl
@[simp] theorem State.drawn_halted (s : State) : (s.drawn).halted = s.halted := rfl
@[simp] theorem State.drawn_eiShadow (s : State) : (s.drawn).eiShadow = s.eiShadow := rfl
@[simp] theorem State.drawn_nmiPending (s : State) : (s.drawn).nmiPending = s.nmiPending := rfl
@[simp] theorem State.drawn_mem (s : State) : (s.drawn).mem = s.mem := rfl
@[simp] theorem State.drawn_params (s : State) : (s.drawn).params = s.params := rfl
@[simp] theorem State.drawn_inputs (s : State) : (s.drawn).inputs = s.inputs := rfl
@[simp] theorem State.drawn_ioSpace (s : State) : (s.drawn).ioSpace = s.ioSpace := rfl
@[simp] theorem State.drawn_bus (s : State) : (s.drawn).bus = s.bus := rfl
@[simp] theorem State.drawn_free (s : State) : (s.drawn).free = s.free + 1 := rfl

/-! ## `push16` -/

@[simp] theorem State.push16_a (s : State) (v : Word) : (s.push16 v).a = s.a := rfl
@[simp] theorem State.push16_f (s : State) (v : Word) : (s.push16 v).f = s.f := rfl
@[simp] theorem State.push16_b (s : State) (v : Word) : (s.push16 v).b = s.b := rfl
@[simp] theorem State.push16_c (s : State) (v : Word) : (s.push16 v).c = s.c := rfl
@[simp] theorem State.push16_d (s : State) (v : Word) : (s.push16 v).d = s.d := rfl
@[simp] theorem State.push16_e (s : State) (v : Word) : (s.push16 v).e = s.e := rfl
@[simp] theorem State.push16_h (s : State) (v : Word) : (s.push16 v).h = s.h := rfl
@[simp] theorem State.push16_l (s : State) (v : Word) : (s.push16 v).l = s.l := rfl
@[simp] theorem State.push16_altA (s : State) (v : Word) : (s.push16 v).altA = s.altA := rfl
@[simp] theorem State.push16_altF (s : State) (v : Word) : (s.push16 v).altF = s.altF := rfl
@[simp] theorem State.push16_altB (s : State) (v : Word) : (s.push16 v).altB = s.altB := rfl
@[simp] theorem State.push16_altC (s : State) (v : Word) : (s.push16 v).altC = s.altC := rfl
@[simp] theorem State.push16_altD (s : State) (v : Word) : (s.push16 v).altD = s.altD := rfl
@[simp] theorem State.push16_altE (s : State) (v : Word) : (s.push16 v).altE = s.altE := rfl
@[simp] theorem State.push16_altH (s : State) (v : Word) : (s.push16 v).altH = s.altH := rfl
@[simp] theorem State.push16_altL (s : State) (v : Word) : (s.push16 v).altL = s.altL := rfl
@[simp] theorem State.push16_ix (s : State) (v : Word) : (s.push16 v).ix = s.ix := rfl
@[simp] theorem State.push16_iy (s : State) (v : Word) : (s.push16 v).iy = s.iy := rfl
@[simp] theorem State.push16_sp (s : State) (v : Word) : (s.push16 v).sp = s.sp - 2#16 := rfl
@[simp] theorem State.push16_pc (s : State) (v : Word) : (s.push16 v).pc = s.pc := rfl
@[simp] theorem State.push16_i (s : State) (v : Word) : (s.push16 v).i = s.i := rfl
@[simp] theorem State.push16_r (s : State) (v : Word) : (s.push16 v).r = s.r := rfl
@[simp] theorem State.push16_iff1 (s : State) (v : Word) : (s.push16 v).iff1 = s.iff1 := rfl
@[simp] theorem State.push16_iff2 (s : State) (v : Word) : (s.push16 v).iff2 = s.iff2 := rfl
@[simp] theorem State.push16_im (s : State) (v : Word) : (s.push16 v).im = s.im := rfl
@[simp] theorem State.push16_halted (s : State) (v : Word) : (s.push16 v).halted = s.halted := rfl
@[simp] theorem State.push16_eiShadow (s : State) (v : Word) : (s.push16 v).eiShadow = s.eiShadow := rfl
@[simp] theorem State.push16_nmiPending (s : State) (v : Word) : (s.push16 v).nmiPending = s.nmiPending := rfl
@[simp] theorem State.push16_params (s : State) (v : Word) : (s.push16 v).params = s.params := rfl
@[simp] theorem State.push16_inputs (s : State) (v : Word) : (s.push16 v).inputs = s.inputs := rfl
@[simp] theorem State.push16_ioSpace (s : State) (v : Word) : (s.push16 v).ioSpace = s.ioSpace := rfl
@[simp] theorem State.push16_bus (s : State) (v : Word) : (s.push16 v).bus = s.bus := rfl
@[simp] theorem State.push16_free (s : State) (v : Word) : (s.push16 v).free = s.free := rfl

/-! ## `enter` -/

@[simp] theorem State.enter_a (s : State) (x : Word) : (s.enter x).a = s.a := rfl
@[simp] theorem State.enter_f (s : State) (x : Word) : (s.enter x).f = s.f := rfl
@[simp] theorem State.enter_b (s : State) (x : Word) : (s.enter x).b = s.b := rfl
@[simp] theorem State.enter_c (s : State) (x : Word) : (s.enter x).c = s.c := rfl
@[simp] theorem State.enter_d (s : State) (x : Word) : (s.enter x).d = s.d := rfl
@[simp] theorem State.enter_e (s : State) (x : Word) : (s.enter x).e = s.e := rfl
@[simp] theorem State.enter_h (s : State) (x : Word) : (s.enter x).h = s.h := rfl
@[simp] theorem State.enter_l (s : State) (x : Word) : (s.enter x).l = s.l := rfl
@[simp] theorem State.enter_altA (s : State) (x : Word) : (s.enter x).altA = s.altA := rfl
@[simp] theorem State.enter_altF (s : State) (x : Word) : (s.enter x).altF = s.altF := rfl
@[simp] theorem State.enter_altB (s : State) (x : Word) : (s.enter x).altB = s.altB := rfl
@[simp] theorem State.enter_altC (s : State) (x : Word) : (s.enter x).altC = s.altC := rfl
@[simp] theorem State.enter_altD (s : State) (x : Word) : (s.enter x).altD = s.altD := rfl
@[simp] theorem State.enter_altE (s : State) (x : Word) : (s.enter x).altE = s.altE := rfl
@[simp] theorem State.enter_altH (s : State) (x : Word) : (s.enter x).altH = s.altH := rfl
@[simp] theorem State.enter_altL (s : State) (x : Word) : (s.enter x).altL = s.altL := rfl
@[simp] theorem State.enter_ix (s : State) (x : Word) : (s.enter x).ix = s.ix := rfl
@[simp] theorem State.enter_iy (s : State) (x : Word) : (s.enter x).iy = s.iy := rfl
@[simp] theorem State.enter_sp (s : State) (x : Word) : (s.enter x).sp = s.sp - 2#16 := rfl
@[simp] theorem State.enter_pc (s : State) (x : Word) : (s.enter x).pc = x := rfl
@[simp] theorem State.enter_i (s : State) (x : Word) : (s.enter x).i = s.i := rfl
@[simp] theorem State.enter_r (s : State) (x : Word) : (s.enter x).r = s.r := rfl
@[simp] theorem State.enter_iff1 (s : State) (x : Word) : (s.enter x).iff1 = s.iff1 := rfl
@[simp] theorem State.enter_iff2 (s : State) (x : Word) : (s.enter x).iff2 = s.iff2 := rfl
@[simp] theorem State.enter_im (s : State) (x : Word) : (s.enter x).im = s.im := rfl
@[simp] theorem State.enter_halted (s : State) (x : Word) : (s.enter x).halted = s.halted := rfl
@[simp] theorem State.enter_eiShadow (s : State) (x : Word) : (s.enter x).eiShadow = s.eiShadow := rfl
@[simp] theorem State.enter_nmiPending (s : State) (x : Word) : (s.enter x).nmiPending = s.nmiPending := rfl
@[simp] theorem State.enter_params (s : State) (x : Word) : (s.enter x).params = s.params := rfl
@[simp] theorem State.enter_inputs (s : State) (x : Word) : (s.enter x).inputs = s.inputs := rfl
@[simp] theorem State.enter_ioSpace (s : State) (x : Word) : (s.enter x).ioSpace = s.ioSpace := rfl
@[simp] theorem State.enter_bus (s : State) (x : Word) : (s.enter x).bus = s.bus := rfl
@[simp] theorem State.enter_free (s : State) (x : Word) : (s.enter x).free = s.free := rfl

/-! ## `returnPC` -/

@[simp] theorem State.returnPC_a (s : State) : (s.returnPC).a = s.a := rfl
@[simp] theorem State.returnPC_f (s : State) : (s.returnPC).f = s.f := rfl
@[simp] theorem State.returnPC_b (s : State) : (s.returnPC).b = s.b := rfl
@[simp] theorem State.returnPC_c (s : State) : (s.returnPC).c = s.c := rfl
@[simp] theorem State.returnPC_d (s : State) : (s.returnPC).d = s.d := rfl
@[simp] theorem State.returnPC_e (s : State) : (s.returnPC).e = s.e := rfl
@[simp] theorem State.returnPC_h (s : State) : (s.returnPC).h = s.h := rfl
@[simp] theorem State.returnPC_l (s : State) : (s.returnPC).l = s.l := rfl
@[simp] theorem State.returnPC_altA (s : State) : (s.returnPC).altA = s.altA := rfl
@[simp] theorem State.returnPC_altF (s : State) : (s.returnPC).altF = s.altF := rfl
@[simp] theorem State.returnPC_altB (s : State) : (s.returnPC).altB = s.altB := rfl
@[simp] theorem State.returnPC_altC (s : State) : (s.returnPC).altC = s.altC := rfl
@[simp] theorem State.returnPC_altD (s : State) : (s.returnPC).altD = s.altD := rfl
@[simp] theorem State.returnPC_altE (s : State) : (s.returnPC).altE = s.altE := rfl
@[simp] theorem State.returnPC_altH (s : State) : (s.returnPC).altH = s.altH := rfl
@[simp] theorem State.returnPC_altL (s : State) : (s.returnPC).altL = s.altL := rfl
@[simp] theorem State.returnPC_ix (s : State) : (s.returnPC).ix = s.ix := rfl
@[simp] theorem State.returnPC_iy (s : State) : (s.returnPC).iy = s.iy := rfl
@[simp] theorem State.returnPC_sp (s : State) : (s.returnPC).sp = s.sp + 2#16 := rfl
@[simp] theorem State.returnPC_pc (s : State) : (s.returnPC).pc = s.stackTop := rfl
@[simp] theorem State.returnPC_i (s : State) : (s.returnPC).i = s.i := rfl
@[simp] theorem State.returnPC_r (s : State) : (s.returnPC).r = s.r := rfl
@[simp] theorem State.returnPC_iff1 (s : State) : (s.returnPC).iff1 = s.iff1 := rfl
@[simp] theorem State.returnPC_iff2 (s : State) : (s.returnPC).iff2 = s.iff2 := rfl
@[simp] theorem State.returnPC_im (s : State) : (s.returnPC).im = s.im := rfl
@[simp] theorem State.returnPC_halted (s : State) : (s.returnPC).halted = s.halted := rfl
@[simp] theorem State.returnPC_eiShadow (s : State) : (s.returnPC).eiShadow = s.eiShadow := rfl
@[simp] theorem State.returnPC_nmiPending (s : State) : (s.returnPC).nmiPending = s.nmiPending := rfl
@[simp] theorem State.returnPC_mem (s : State) : (s.returnPC).mem = s.mem := rfl
@[simp] theorem State.returnPC_params (s : State) : (s.returnPC).params = s.params := rfl
@[simp] theorem State.returnPC_inputs (s : State) : (s.returnPC).inputs = s.inputs := rfl
@[simp] theorem State.returnPC_ioSpace (s : State) : (s.returnPC).ioSpace = s.ioSpace := rfl
@[simp] theorem State.returnPC_bus (s : State) : (s.returnPC).bus = s.bus := rfl
@[simp] theorem State.returnPC_free (s : State) : (s.returnPC).free = s.free := rfl

/-! ## `afterIoRead` -/

@[simp] theorem State.afterIoRead_a (s : State) (x : Word) : (s.afterIoRead x).a = s.a := rfl
@[simp] theorem State.afterIoRead_f (s : State) (x : Word) : (s.afterIoRead x).f = s.f := rfl
@[simp] theorem State.afterIoRead_b (s : State) (x : Word) : (s.afterIoRead x).b = s.b := rfl
@[simp] theorem State.afterIoRead_c (s : State) (x : Word) : (s.afterIoRead x).c = s.c := rfl
@[simp] theorem State.afterIoRead_d (s : State) (x : Word) : (s.afterIoRead x).d = s.d := rfl
@[simp] theorem State.afterIoRead_e (s : State) (x : Word) : (s.afterIoRead x).e = s.e := rfl
@[simp] theorem State.afterIoRead_h (s : State) (x : Word) : (s.afterIoRead x).h = s.h := rfl
@[simp] theorem State.afterIoRead_l (s : State) (x : Word) : (s.afterIoRead x).l = s.l := rfl
@[simp] theorem State.afterIoRead_altA (s : State) (x : Word) : (s.afterIoRead x).altA = s.altA := rfl
@[simp] theorem State.afterIoRead_altF (s : State) (x : Word) : (s.afterIoRead x).altF = s.altF := rfl
@[simp] theorem State.afterIoRead_altB (s : State) (x : Word) : (s.afterIoRead x).altB = s.altB := rfl
@[simp] theorem State.afterIoRead_altC (s : State) (x : Word) : (s.afterIoRead x).altC = s.altC := rfl
@[simp] theorem State.afterIoRead_altD (s : State) (x : Word) : (s.afterIoRead x).altD = s.altD := rfl
@[simp] theorem State.afterIoRead_altE (s : State) (x : Word) : (s.afterIoRead x).altE = s.altE := rfl
@[simp] theorem State.afterIoRead_altH (s : State) (x : Word) : (s.afterIoRead x).altH = s.altH := rfl
@[simp] theorem State.afterIoRead_altL (s : State) (x : Word) : (s.afterIoRead x).altL = s.altL := rfl
@[simp] theorem State.afterIoRead_ix (s : State) (x : Word) : (s.afterIoRead x).ix = s.ix := rfl
@[simp] theorem State.afterIoRead_iy (s : State) (x : Word) : (s.afterIoRead x).iy = s.iy := rfl
@[simp] theorem State.afterIoRead_sp (s : State) (x : Word) : (s.afterIoRead x).sp = s.sp := rfl
@[simp] theorem State.afterIoRead_pc (s : State) (x : Word) : (s.afterIoRead x).pc = s.pc := rfl
@[simp] theorem State.afterIoRead_i (s : State) (x : Word) : (s.afterIoRead x).i = s.i := rfl
@[simp] theorem State.afterIoRead_r (s : State) (x : Word) : (s.afterIoRead x).r = s.r := rfl
@[simp] theorem State.afterIoRead_iff1 (s : State) (x : Word) : (s.afterIoRead x).iff1 = s.iff1 := rfl
@[simp] theorem State.afterIoRead_iff2 (s : State) (x : Word) : (s.afterIoRead x).iff2 = s.iff2 := rfl
@[simp] theorem State.afterIoRead_im (s : State) (x : Word) : (s.afterIoRead x).im = s.im := rfl
@[simp] theorem State.afterIoRead_halted (s : State) (x : Word) : (s.afterIoRead x).halted = s.halted := rfl
@[simp] theorem State.afterIoRead_eiShadow (s : State) (x : Word) : (s.afterIoRead x).eiShadow = s.eiShadow := rfl
@[simp] theorem State.afterIoRead_nmiPending (s : State) (x : Word) : (s.afterIoRead x).nmiPending = s.nmiPending := rfl
@[simp] theorem State.afterIoRead_mem (s : State) (x : Word) : (s.afterIoRead x).mem = s.mem := rfl
@[simp] theorem State.afterIoRead_params (s : State) (x : Word) : (s.afterIoRead x).params = s.params := rfl
@[simp] theorem State.afterIoRead_inputs (s : State) (x : Word) : (s.afterIoRead x).inputs = s.inputs := rfl
@[simp] theorem State.afterIoRead_ioSpace (s : State) (x : Word) : (s.afterIoRead x).ioSpace = laterPorts s.ioSpace := rfl
@[simp] theorem State.afterIoRead_bus (s : State) (x : Word) : (s.afterIoRead x).bus = .ioRead x (s.portByte x) :: s.bus := rfl
@[simp] theorem State.afterIoRead_free (s : State) (x : Word) : (s.afterIoRead x).free = s.free + 1 := rfl

/-! ## `ioWrite` -/

@[simp] theorem State.ioWrite_a (s : State) (x : Word) (v : Byte) : (s.ioWrite x v).a = s.a := rfl
@[simp] theorem State.ioWrite_f (s : State) (x : Word) (v : Byte) : (s.ioWrite x v).f = s.f := rfl
@[simp] theorem State.ioWrite_b (s : State) (x : Word) (v : Byte) : (s.ioWrite x v).b = s.b := rfl
@[simp] theorem State.ioWrite_c (s : State) (x : Word) (v : Byte) : (s.ioWrite x v).c = s.c := rfl
@[simp] theorem State.ioWrite_d (s : State) (x : Word) (v : Byte) : (s.ioWrite x v).d = s.d := rfl
@[simp] theorem State.ioWrite_e (s : State) (x : Word) (v : Byte) : (s.ioWrite x v).e = s.e := rfl
@[simp] theorem State.ioWrite_h (s : State) (x : Word) (v : Byte) : (s.ioWrite x v).h = s.h := rfl
@[simp] theorem State.ioWrite_l (s : State) (x : Word) (v : Byte) : (s.ioWrite x v).l = s.l := rfl
@[simp] theorem State.ioWrite_altA (s : State) (x : Word) (v : Byte) : (s.ioWrite x v).altA = s.altA := rfl
@[simp] theorem State.ioWrite_altF (s : State) (x : Word) (v : Byte) : (s.ioWrite x v).altF = s.altF := rfl
@[simp] theorem State.ioWrite_altB (s : State) (x : Word) (v : Byte) : (s.ioWrite x v).altB = s.altB := rfl
@[simp] theorem State.ioWrite_altC (s : State) (x : Word) (v : Byte) : (s.ioWrite x v).altC = s.altC := rfl
@[simp] theorem State.ioWrite_altD (s : State) (x : Word) (v : Byte) : (s.ioWrite x v).altD = s.altD := rfl
@[simp] theorem State.ioWrite_altE (s : State) (x : Word) (v : Byte) : (s.ioWrite x v).altE = s.altE := rfl
@[simp] theorem State.ioWrite_altH (s : State) (x : Word) (v : Byte) : (s.ioWrite x v).altH = s.altH := rfl
@[simp] theorem State.ioWrite_altL (s : State) (x : Word) (v : Byte) : (s.ioWrite x v).altL = s.altL := rfl
@[simp] theorem State.ioWrite_ix (s : State) (x : Word) (v : Byte) : (s.ioWrite x v).ix = s.ix := rfl
@[simp] theorem State.ioWrite_iy (s : State) (x : Word) (v : Byte) : (s.ioWrite x v).iy = s.iy := rfl
@[simp] theorem State.ioWrite_sp (s : State) (x : Word) (v : Byte) : (s.ioWrite x v).sp = s.sp := rfl
@[simp] theorem State.ioWrite_pc (s : State) (x : Word) (v : Byte) : (s.ioWrite x v).pc = s.pc := rfl
@[simp] theorem State.ioWrite_i (s : State) (x : Word) (v : Byte) : (s.ioWrite x v).i = s.i := rfl
@[simp] theorem State.ioWrite_r (s : State) (x : Word) (v : Byte) : (s.ioWrite x v).r = s.r := rfl
@[simp] theorem State.ioWrite_iff1 (s : State) (x : Word) (v : Byte) : (s.ioWrite x v).iff1 = s.iff1 := rfl
@[simp] theorem State.ioWrite_iff2 (s : State) (x : Word) (v : Byte) : (s.ioWrite x v).iff2 = s.iff2 := rfl
@[simp] theorem State.ioWrite_im (s : State) (x : Word) (v : Byte) : (s.ioWrite x v).im = s.im := rfl
@[simp] theorem State.ioWrite_halted (s : State) (x : Word) (v : Byte) : (s.ioWrite x v).halted = s.halted := rfl
@[simp] theorem State.ioWrite_eiShadow (s : State) (x : Word) (v : Byte) : (s.ioWrite x v).eiShadow = s.eiShadow := rfl
@[simp] theorem State.ioWrite_nmiPending (s : State) (x : Word) (v : Byte) : (s.ioWrite x v).nmiPending = s.nmiPending := rfl
@[simp] theorem State.ioWrite_mem (s : State) (x : Word) (v : Byte) : (s.ioWrite x v).mem = s.mem := rfl
@[simp] theorem State.ioWrite_params (s : State) (x : Word) (v : Byte) : (s.ioWrite x v).params = s.params := rfl
@[simp] theorem State.ioWrite_inputs (s : State) (x : Word) (v : Byte) : (s.ioWrite x v).inputs = s.inputs := rfl
@[simp] theorem State.ioWrite_ioSpace (s : State) (x : Word) (v : Byte) : (s.ioWrite x v).ioSpace = s.ioSpace := rfl
@[simp] theorem State.ioWrite_bus (s : State) (x : Word) (v : Byte) : (s.ioWrite x v).bus = .ioWrite x v :: s.bus := rfl
@[simp] theorem State.ioWrite_free (s : State) (x : Word) (v : Byte) : (s.ioWrite x v).free = s.free := rfl

/-! ## `jump` -/

@[simp] theorem State.jump_a (s : State) (x : Word) : (s.jump x).a = s.a := rfl
@[simp] theorem State.jump_f (s : State) (x : Word) : (s.jump x).f = s.f := rfl
@[simp] theorem State.jump_b (s : State) (x : Word) : (s.jump x).b = s.b := rfl
@[simp] theorem State.jump_c (s : State) (x : Word) : (s.jump x).c = s.c := rfl
@[simp] theorem State.jump_d (s : State) (x : Word) : (s.jump x).d = s.d := rfl
@[simp] theorem State.jump_e (s : State) (x : Word) : (s.jump x).e = s.e := rfl
@[simp] theorem State.jump_h (s : State) (x : Word) : (s.jump x).h = s.h := rfl
@[simp] theorem State.jump_l (s : State) (x : Word) : (s.jump x).l = s.l := rfl
@[simp] theorem State.jump_altA (s : State) (x : Word) : (s.jump x).altA = s.altA := rfl
@[simp] theorem State.jump_altF (s : State) (x : Word) : (s.jump x).altF = s.altF := rfl
@[simp] theorem State.jump_altB (s : State) (x : Word) : (s.jump x).altB = s.altB := rfl
@[simp] theorem State.jump_altC (s : State) (x : Word) : (s.jump x).altC = s.altC := rfl
@[simp] theorem State.jump_altD (s : State) (x : Word) : (s.jump x).altD = s.altD := rfl
@[simp] theorem State.jump_altE (s : State) (x : Word) : (s.jump x).altE = s.altE := rfl
@[simp] theorem State.jump_altH (s : State) (x : Word) : (s.jump x).altH = s.altH := rfl
@[simp] theorem State.jump_altL (s : State) (x : Word) : (s.jump x).altL = s.altL := rfl
@[simp] theorem State.jump_ix (s : State) (x : Word) : (s.jump x).ix = s.ix := rfl
@[simp] theorem State.jump_iy (s : State) (x : Word) : (s.jump x).iy = s.iy := rfl
@[simp] theorem State.jump_sp (s : State) (x : Word) : (s.jump x).sp = s.sp := rfl
@[simp] theorem State.jump_pc (s : State) (x : Word) : (s.jump x).pc = x := rfl
@[simp] theorem State.jump_i (s : State) (x : Word) : (s.jump x).i = s.i := rfl
@[simp] theorem State.jump_r (s : State) (x : Word) : (s.jump x).r = s.r := rfl
@[simp] theorem State.jump_iff1 (s : State) (x : Word) : (s.jump x).iff1 = s.iff1 := rfl
@[simp] theorem State.jump_iff2 (s : State) (x : Word) : (s.jump x).iff2 = s.iff2 := rfl
@[simp] theorem State.jump_im (s : State) (x : Word) : (s.jump x).im = s.im := rfl
@[simp] theorem State.jump_halted (s : State) (x : Word) : (s.jump x).halted = s.halted := rfl
@[simp] theorem State.jump_eiShadow (s : State) (x : Word) : (s.jump x).eiShadow = s.eiShadow := rfl
@[simp] theorem State.jump_nmiPending (s : State) (x : Word) : (s.jump x).nmiPending = s.nmiPending := rfl
@[simp] theorem State.jump_mem (s : State) (x : Word) : (s.jump x).mem = s.mem := rfl
@[simp] theorem State.jump_params (s : State) (x : Word) : (s.jump x).params = s.params := rfl
@[simp] theorem State.jump_inputs (s : State) (x : Word) : (s.jump x).inputs = s.inputs := rfl
@[simp] theorem State.jump_ioSpace (s : State) (x : Word) : (s.jump x).ioSpace = s.ioSpace := rfl
@[simp] theorem State.jump_bus (s : State) (x : Word) : (s.jump x).bus = s.bus := rfl
@[simp] theorem State.jump_free (s : State) (x : Word) : (s.jump x).free = s.free := rfl

/-! ## `jumpIf` -/

@[simp] theorem State.jumpIf_a (s : State) (t : Bool) (x : Word) : (s.jumpIf t x).a = s.a := rfl
@[simp] theorem State.jumpIf_f (s : State) (t : Bool) (x : Word) : (s.jumpIf t x).f = s.f := rfl
@[simp] theorem State.jumpIf_b (s : State) (t : Bool) (x : Word) : (s.jumpIf t x).b = s.b := rfl
@[simp] theorem State.jumpIf_c (s : State) (t : Bool) (x : Word) : (s.jumpIf t x).c = s.c := rfl
@[simp] theorem State.jumpIf_d (s : State) (t : Bool) (x : Word) : (s.jumpIf t x).d = s.d := rfl
@[simp] theorem State.jumpIf_e (s : State) (t : Bool) (x : Word) : (s.jumpIf t x).e = s.e := rfl
@[simp] theorem State.jumpIf_h (s : State) (t : Bool) (x : Word) : (s.jumpIf t x).h = s.h := rfl
@[simp] theorem State.jumpIf_l (s : State) (t : Bool) (x : Word) : (s.jumpIf t x).l = s.l := rfl
@[simp] theorem State.jumpIf_altA (s : State) (t : Bool) (x : Word) : (s.jumpIf t x).altA = s.altA := rfl
@[simp] theorem State.jumpIf_altF (s : State) (t : Bool) (x : Word) : (s.jumpIf t x).altF = s.altF := rfl
@[simp] theorem State.jumpIf_altB (s : State) (t : Bool) (x : Word) : (s.jumpIf t x).altB = s.altB := rfl
@[simp] theorem State.jumpIf_altC (s : State) (t : Bool) (x : Word) : (s.jumpIf t x).altC = s.altC := rfl
@[simp] theorem State.jumpIf_altD (s : State) (t : Bool) (x : Word) : (s.jumpIf t x).altD = s.altD := rfl
@[simp] theorem State.jumpIf_altE (s : State) (t : Bool) (x : Word) : (s.jumpIf t x).altE = s.altE := rfl
@[simp] theorem State.jumpIf_altH (s : State) (t : Bool) (x : Word) : (s.jumpIf t x).altH = s.altH := rfl
@[simp] theorem State.jumpIf_altL (s : State) (t : Bool) (x : Word) : (s.jumpIf t x).altL = s.altL := rfl
@[simp] theorem State.jumpIf_ix (s : State) (t : Bool) (x : Word) : (s.jumpIf t x).ix = s.ix := rfl
@[simp] theorem State.jumpIf_iy (s : State) (t : Bool) (x : Word) : (s.jumpIf t x).iy = s.iy := rfl
@[simp] theorem State.jumpIf_sp (s : State) (t : Bool) (x : Word) : (s.jumpIf t x).sp = s.sp := rfl
@[simp] theorem State.jumpIf_pc (s : State) (t : Bool) (x : Word) : (s.jumpIf t x).pc = if t then x else s.pc := rfl
@[simp] theorem State.jumpIf_i (s : State) (t : Bool) (x : Word) : (s.jumpIf t x).i = s.i := rfl
@[simp] theorem State.jumpIf_r (s : State) (t : Bool) (x : Word) : (s.jumpIf t x).r = s.r := rfl
@[simp] theorem State.jumpIf_iff1 (s : State) (t : Bool) (x : Word) : (s.jumpIf t x).iff1 = s.iff1 := rfl
@[simp] theorem State.jumpIf_iff2 (s : State) (t : Bool) (x : Word) : (s.jumpIf t x).iff2 = s.iff2 := rfl
@[simp] theorem State.jumpIf_im (s : State) (t : Bool) (x : Word) : (s.jumpIf t x).im = s.im := rfl
@[simp] theorem State.jumpIf_halted (s : State) (t : Bool) (x : Word) : (s.jumpIf t x).halted = s.halted := rfl
@[simp] theorem State.jumpIf_eiShadow (s : State) (t : Bool) (x : Word) : (s.jumpIf t x).eiShadow = s.eiShadow := rfl
@[simp] theorem State.jumpIf_nmiPending (s : State) (t : Bool) (x : Word) : (s.jumpIf t x).nmiPending = s.nmiPending := rfl
@[simp] theorem State.jumpIf_mem (s : State) (t : Bool) (x : Word) : (s.jumpIf t x).mem = s.mem := rfl
@[simp] theorem State.jumpIf_params (s : State) (t : Bool) (x : Word) : (s.jumpIf t x).params = s.params := rfl
@[simp] theorem State.jumpIf_inputs (s : State) (t : Bool) (x : Word) : (s.jumpIf t x).inputs = s.inputs := rfl
@[simp] theorem State.jumpIf_ioSpace (s : State) (t : Bool) (x : Word) : (s.jumpIf t x).ioSpace = s.ioSpace := rfl
@[simp] theorem State.jumpIf_bus (s : State) (t : Bool) (x : Word) : (s.jumpIf t x).bus = s.bus := rfl
@[simp] theorem State.jumpIf_free (s : State) (t : Bool) (x : Word) : (s.jumpIf t x).free = s.free := rfl

/-! ## `repeatIf` -/

@[simp] theorem State.repeatIf_a (s : State) (t : Bool) : (s.repeatIf t).a = s.a := rfl
@[simp] theorem State.repeatIf_f (s : State) (t : Bool) : (s.repeatIf t).f = s.f := rfl
@[simp] theorem State.repeatIf_b (s : State) (t : Bool) : (s.repeatIf t).b = s.b := rfl
@[simp] theorem State.repeatIf_c (s : State) (t : Bool) : (s.repeatIf t).c = s.c := rfl
@[simp] theorem State.repeatIf_d (s : State) (t : Bool) : (s.repeatIf t).d = s.d := rfl
@[simp] theorem State.repeatIf_e (s : State) (t : Bool) : (s.repeatIf t).e = s.e := rfl
@[simp] theorem State.repeatIf_h (s : State) (t : Bool) : (s.repeatIf t).h = s.h := rfl
@[simp] theorem State.repeatIf_l (s : State) (t : Bool) : (s.repeatIf t).l = s.l := rfl
@[simp] theorem State.repeatIf_altA (s : State) (t : Bool) : (s.repeatIf t).altA = s.altA := rfl
@[simp] theorem State.repeatIf_altF (s : State) (t : Bool) : (s.repeatIf t).altF = s.altF := rfl
@[simp] theorem State.repeatIf_altB (s : State) (t : Bool) : (s.repeatIf t).altB = s.altB := rfl
@[simp] theorem State.repeatIf_altC (s : State) (t : Bool) : (s.repeatIf t).altC = s.altC := rfl
@[simp] theorem State.repeatIf_altD (s : State) (t : Bool) : (s.repeatIf t).altD = s.altD := rfl
@[simp] theorem State.repeatIf_altE (s : State) (t : Bool) : (s.repeatIf t).altE = s.altE := rfl
@[simp] theorem State.repeatIf_altH (s : State) (t : Bool) : (s.repeatIf t).altH = s.altH := rfl
@[simp] theorem State.repeatIf_altL (s : State) (t : Bool) : (s.repeatIf t).altL = s.altL := rfl
@[simp] theorem State.repeatIf_ix (s : State) (t : Bool) : (s.repeatIf t).ix = s.ix := rfl
@[simp] theorem State.repeatIf_iy (s : State) (t : Bool) : (s.repeatIf t).iy = s.iy := rfl
@[simp] theorem State.repeatIf_sp (s : State) (t : Bool) : (s.repeatIf t).sp = s.sp := rfl
@[simp] theorem State.repeatIf_pc (s : State) (t : Bool) : (s.repeatIf t).pc = if t then s.pc - 2#16 else s.pc := rfl
@[simp] theorem State.repeatIf_i (s : State) (t : Bool) : (s.repeatIf t).i = s.i := rfl
@[simp] theorem State.repeatIf_r (s : State) (t : Bool) : (s.repeatIf t).r = s.r := rfl
@[simp] theorem State.repeatIf_iff1 (s : State) (t : Bool) : (s.repeatIf t).iff1 = s.iff1 := rfl
@[simp] theorem State.repeatIf_iff2 (s : State) (t : Bool) : (s.repeatIf t).iff2 = s.iff2 := rfl
@[simp] theorem State.repeatIf_im (s : State) (t : Bool) : (s.repeatIf t).im = s.im := rfl
@[simp] theorem State.repeatIf_halted (s : State) (t : Bool) : (s.repeatIf t).halted = s.halted := rfl
@[simp] theorem State.repeatIf_eiShadow (s : State) (t : Bool) : (s.repeatIf t).eiShadow = s.eiShadow := rfl
@[simp] theorem State.repeatIf_nmiPending (s : State) (t : Bool) : (s.repeatIf t).nmiPending = s.nmiPending := rfl
@[simp] theorem State.repeatIf_mem (s : State) (t : Bool) : (s.repeatIf t).mem = s.mem := rfl
@[simp] theorem State.repeatIf_params (s : State) (t : Bool) : (s.repeatIf t).params = s.params := rfl
@[simp] theorem State.repeatIf_inputs (s : State) (t : Bool) : (s.repeatIf t).inputs = s.inputs := rfl
@[simp] theorem State.repeatIf_ioSpace (s : State) (t : Bool) : (s.repeatIf t).ioSpace = s.ioSpace := rfl
@[simp] theorem State.repeatIf_bus (s : State) (t : Bool) : (s.repeatIf t).bus = s.bus := rfl
@[simp] theorem State.repeatIf_free (s : State) (t : Bool) : (s.repeatIf t).free = s.free := rfl

/-! ## `advanceR` -/

@[simp] theorem State.advanceR_a (s : State) (k : Option Instr) : (s.advanceR k).a = s.a := rfl
@[simp] theorem State.advanceR_f (s : State) (k : Option Instr) : (s.advanceR k).f = s.f := rfl
@[simp] theorem State.advanceR_b (s : State) (k : Option Instr) : (s.advanceR k).b = s.b := rfl
@[simp] theorem State.advanceR_c (s : State) (k : Option Instr) : (s.advanceR k).c = s.c := rfl
@[simp] theorem State.advanceR_d (s : State) (k : Option Instr) : (s.advanceR k).d = s.d := rfl
@[simp] theorem State.advanceR_e (s : State) (k : Option Instr) : (s.advanceR k).e = s.e := rfl
@[simp] theorem State.advanceR_h (s : State) (k : Option Instr) : (s.advanceR k).h = s.h := rfl
@[simp] theorem State.advanceR_l (s : State) (k : Option Instr) : (s.advanceR k).l = s.l := rfl
@[simp] theorem State.advanceR_altA (s : State) (k : Option Instr) : (s.advanceR k).altA = s.altA := rfl
@[simp] theorem State.advanceR_altF (s : State) (k : Option Instr) : (s.advanceR k).altF = s.altF := rfl
@[simp] theorem State.advanceR_altB (s : State) (k : Option Instr) : (s.advanceR k).altB = s.altB := rfl
@[simp] theorem State.advanceR_altC (s : State) (k : Option Instr) : (s.advanceR k).altC = s.altC := rfl
@[simp] theorem State.advanceR_altD (s : State) (k : Option Instr) : (s.advanceR k).altD = s.altD := rfl
@[simp] theorem State.advanceR_altE (s : State) (k : Option Instr) : (s.advanceR k).altE = s.altE := rfl
@[simp] theorem State.advanceR_altH (s : State) (k : Option Instr) : (s.advanceR k).altH = s.altH := rfl
@[simp] theorem State.advanceR_altL (s : State) (k : Option Instr) : (s.advanceR k).altL = s.altL := rfl
@[simp] theorem State.advanceR_ix (s : State) (k : Option Instr) : (s.advanceR k).ix = s.ix := rfl
@[simp] theorem State.advanceR_iy (s : State) (k : Option Instr) : (s.advanceR k).iy = s.iy := rfl
@[simp] theorem State.advanceR_sp (s : State) (k : Option Instr) : (s.advanceR k).sp = s.sp := rfl
@[simp] theorem State.advanceR_pc (s : State) (k : Option Instr) : (s.advanceR k).pc = s.pc := rfl
@[simp] theorem State.advanceR_i (s : State) (k : Option Instr) : (s.advanceR k).i = s.i := rfl
@[simp] theorem State.advanceR_r (s : State) (k : Option Instr) : (s.advanceR k).r = s.steppedR k := rfl
@[simp] theorem State.advanceR_iff1 (s : State) (k : Option Instr) : (s.advanceR k).iff1 = s.iff1 := rfl
@[simp] theorem State.advanceR_iff2 (s : State) (k : Option Instr) : (s.advanceR k).iff2 = s.iff2 := rfl
@[simp] theorem State.advanceR_im (s : State) (k : Option Instr) : (s.advanceR k).im = s.im := rfl
@[simp] theorem State.advanceR_halted (s : State) (k : Option Instr) : (s.advanceR k).halted = s.halted := rfl
@[simp] theorem State.advanceR_eiShadow (s : State) (k : Option Instr) : (s.advanceR k).eiShadow = s.eiShadow := rfl
@[simp] theorem State.advanceR_nmiPending (s : State) (k : Option Instr) : (s.advanceR k).nmiPending = s.nmiPending := rfl
@[simp] theorem State.advanceR_mem (s : State) (k : Option Instr) : (s.advanceR k).mem = s.mem := rfl
@[simp] theorem State.advanceR_params (s : State) (k : Option Instr) : (s.advanceR k).params = s.params := rfl
@[simp] theorem State.advanceR_inputs (s : State) (k : Option Instr) : (s.advanceR k).inputs = s.inputs := rfl
@[simp] theorem State.advanceR_ioSpace (s : State) (k : Option Instr) : (s.advanceR k).ioSpace = s.ioSpace := rfl
@[simp] theorem State.advanceR_bus (s : State) (k : Option Instr) : (s.advanceR k).bus = s.bus := rfl
@[simp] theorem State.advanceR_free (s : State) (k : Option Instr) : (s.advanceR k).free = s.free + 1 := rfl

/-! ## `exchangeTop` -/

@[simp] theorem State.exchangeTop_a (s : State) (v : Word) : (s.exchangeTop v).a = s.a := rfl
@[simp] theorem State.exchangeTop_f (s : State) (v : Word) : (s.exchangeTop v).f = s.f := rfl
@[simp] theorem State.exchangeTop_b (s : State) (v : Word) : (s.exchangeTop v).b = s.b := rfl
@[simp] theorem State.exchangeTop_c (s : State) (v : Word) : (s.exchangeTop v).c = s.c := rfl
@[simp] theorem State.exchangeTop_d (s : State) (v : Word) : (s.exchangeTop v).d = s.d := rfl
@[simp] theorem State.exchangeTop_e (s : State) (v : Word) : (s.exchangeTop v).e = s.e := rfl
@[simp] theorem State.exchangeTop_h (s : State) (v : Word) : (s.exchangeTop v).h = s.h := rfl
@[simp] theorem State.exchangeTop_l (s : State) (v : Word) : (s.exchangeTop v).l = s.l := rfl
@[simp] theorem State.exchangeTop_altA (s : State) (v : Word) : (s.exchangeTop v).altA = s.altA := rfl
@[simp] theorem State.exchangeTop_altF (s : State) (v : Word) : (s.exchangeTop v).altF = s.altF := rfl
@[simp] theorem State.exchangeTop_altB (s : State) (v : Word) : (s.exchangeTop v).altB = s.altB := rfl
@[simp] theorem State.exchangeTop_altC (s : State) (v : Word) : (s.exchangeTop v).altC = s.altC := rfl
@[simp] theorem State.exchangeTop_altD (s : State) (v : Word) : (s.exchangeTop v).altD = s.altD := rfl
@[simp] theorem State.exchangeTop_altE (s : State) (v : Word) : (s.exchangeTop v).altE = s.altE := rfl
@[simp] theorem State.exchangeTop_altH (s : State) (v : Word) : (s.exchangeTop v).altH = s.altH := rfl
@[simp] theorem State.exchangeTop_altL (s : State) (v : Word) : (s.exchangeTop v).altL = s.altL := rfl
@[simp] theorem State.exchangeTop_ix (s : State) (v : Word) : (s.exchangeTop v).ix = s.ix := rfl
@[simp] theorem State.exchangeTop_iy (s : State) (v : Word) : (s.exchangeTop v).iy = s.iy := rfl
@[simp] theorem State.exchangeTop_sp (s : State) (v : Word) : (s.exchangeTop v).sp = s.sp := rfl
@[simp] theorem State.exchangeTop_pc (s : State) (v : Word) : (s.exchangeTop v).pc = s.pc := rfl
@[simp] theorem State.exchangeTop_i (s : State) (v : Word) : (s.exchangeTop v).i = s.i := rfl
@[simp] theorem State.exchangeTop_r (s : State) (v : Word) : (s.exchangeTop v).r = s.r := rfl
@[simp] theorem State.exchangeTop_iff1 (s : State) (v : Word) : (s.exchangeTop v).iff1 = s.iff1 := rfl
@[simp] theorem State.exchangeTop_iff2 (s : State) (v : Word) : (s.exchangeTop v).iff2 = s.iff2 := rfl
@[simp] theorem State.exchangeTop_im (s : State) (v : Word) : (s.exchangeTop v).im = s.im := rfl
@[simp] theorem State.exchangeTop_halted (s : State) (v : Word) : (s.exchangeTop v).halted = s.halted := rfl
@[simp] theorem State.exchangeTop_eiShadow (s : State) (v : Word) : (s.exchangeTop v).eiShadow = s.eiShadow := rfl
@[simp] theorem State.exchangeTop_nmiPending (s : State) (v : Word) : (s.exchangeTop v).nmiPending = s.nmiPending := rfl
@[simp] theorem State.exchangeTop_params (s : State) (v : Word) : (s.exchangeTop v).params = s.params := rfl
@[simp] theorem State.exchangeTop_inputs (s : State) (v : Word) : (s.exchangeTop v).inputs = s.inputs := rfl
@[simp] theorem State.exchangeTop_ioSpace (s : State) (v : Word) : (s.exchangeTop v).ioSpace = s.ioSpace := rfl
@[simp] theorem State.exchangeTop_bus (s : State) (v : Word) : (s.exchangeTop v).bus = s.bus := rfl
@[simp] theorem State.exchangeTop_free (s : State) (v : Word) : (s.exchangeTop v).free = s.free := rfl

/-! ## `acceptNmi` -/

@[simp] theorem State.acceptNmi_a (s : State) : (s.acceptNmi).a = s.a := rfl
@[simp] theorem State.acceptNmi_f (s : State) : (s.acceptNmi).f = s.f := rfl
@[simp] theorem State.acceptNmi_b (s : State) : (s.acceptNmi).b = s.b := rfl
@[simp] theorem State.acceptNmi_c (s : State) : (s.acceptNmi).c = s.c := rfl
@[simp] theorem State.acceptNmi_d (s : State) : (s.acceptNmi).d = s.d := rfl
@[simp] theorem State.acceptNmi_e (s : State) : (s.acceptNmi).e = s.e := rfl
@[simp] theorem State.acceptNmi_h (s : State) : (s.acceptNmi).h = s.h := rfl
@[simp] theorem State.acceptNmi_l (s : State) : (s.acceptNmi).l = s.l := rfl
@[simp] theorem State.acceptNmi_altA (s : State) : (s.acceptNmi).altA = s.altA := rfl
@[simp] theorem State.acceptNmi_altF (s : State) : (s.acceptNmi).altF = s.altF := rfl
@[simp] theorem State.acceptNmi_altB (s : State) : (s.acceptNmi).altB = s.altB := rfl
@[simp] theorem State.acceptNmi_altC (s : State) : (s.acceptNmi).altC = s.altC := rfl
@[simp] theorem State.acceptNmi_altD (s : State) : (s.acceptNmi).altD = s.altD := rfl
@[simp] theorem State.acceptNmi_altE (s : State) : (s.acceptNmi).altE = s.altE := rfl
@[simp] theorem State.acceptNmi_altH (s : State) : (s.acceptNmi).altH = s.altH := rfl
@[simp] theorem State.acceptNmi_altL (s : State) : (s.acceptNmi).altL = s.altL := rfl
@[simp] theorem State.acceptNmi_ix (s : State) : (s.acceptNmi).ix = s.ix := rfl
@[simp] theorem State.acceptNmi_iy (s : State) : (s.acceptNmi).iy = s.iy := rfl
@[simp] theorem State.acceptNmi_sp (s : State) : (s.acceptNmi).sp = s.sp - 2#16 := rfl
@[simp] theorem State.acceptNmi_pc (s : State) : (s.acceptNmi).pc = 0x0066#16 := rfl
@[simp] theorem State.acceptNmi_i (s : State) : (s.acceptNmi).i = s.i := rfl
@[simp] theorem State.acceptNmi_r (s : State) : (s.acceptNmi).r = s.r := rfl
@[simp] theorem State.acceptNmi_iff1 (s : State) : (s.acceptNmi).iff1 = false := rfl
@[simp] theorem State.acceptNmi_iff2 (s : State) : (s.acceptNmi).iff2 = s.iff2 := rfl
@[simp] theorem State.acceptNmi_im (s : State) : (s.acceptNmi).im = s.im := rfl
@[simp] theorem State.acceptNmi_halted (s : State) : (s.acceptNmi).halted = false := rfl
@[simp] theorem State.acceptNmi_eiShadow (s : State) : (s.acceptNmi).eiShadow = false := rfl
@[simp] theorem State.acceptNmi_nmiPending (s : State) : (s.acceptNmi).nmiPending = false := rfl
@[simp] theorem State.acceptNmi_params (s : State) : (s.acceptNmi).params = s.params := rfl
@[simp] theorem State.acceptNmi_inputs (s : State) : (s.acceptNmi).inputs = s.inputs := rfl
@[simp] theorem State.acceptNmi_ioSpace (s : State) : (s.acceptNmi).ioSpace = s.ioSpace := rfl
@[simp] theorem State.acceptNmi_bus (s : State) : (s.acceptNmi).bus = s.bus := rfl
@[simp] theorem State.acceptNmi_free (s : State) : (s.acceptNmi).free = s.free := rfl

/-! ## `acceptIntCommon` -/

@[simp] theorem State.acceptIntCommon_a (s : State) : (s.acceptIntCommon).a = s.a := rfl
@[simp] theorem State.acceptIntCommon_f (s : State) : (s.acceptIntCommon).f = s.f := rfl
@[simp] theorem State.acceptIntCommon_b (s : State) : (s.acceptIntCommon).b = s.b := rfl
@[simp] theorem State.acceptIntCommon_c (s : State) : (s.acceptIntCommon).c = s.c := rfl
@[simp] theorem State.acceptIntCommon_d (s : State) : (s.acceptIntCommon).d = s.d := rfl
@[simp] theorem State.acceptIntCommon_e (s : State) : (s.acceptIntCommon).e = s.e := rfl
@[simp] theorem State.acceptIntCommon_h (s : State) : (s.acceptIntCommon).h = s.h := rfl
@[simp] theorem State.acceptIntCommon_l (s : State) : (s.acceptIntCommon).l = s.l := rfl
@[simp] theorem State.acceptIntCommon_altA (s : State) : (s.acceptIntCommon).altA = s.altA := rfl
@[simp] theorem State.acceptIntCommon_altF (s : State) : (s.acceptIntCommon).altF = s.altF := rfl
@[simp] theorem State.acceptIntCommon_altB (s : State) : (s.acceptIntCommon).altB = s.altB := rfl
@[simp] theorem State.acceptIntCommon_altC (s : State) : (s.acceptIntCommon).altC = s.altC := rfl
@[simp] theorem State.acceptIntCommon_altD (s : State) : (s.acceptIntCommon).altD = s.altD := rfl
@[simp] theorem State.acceptIntCommon_altE (s : State) : (s.acceptIntCommon).altE = s.altE := rfl
@[simp] theorem State.acceptIntCommon_altH (s : State) : (s.acceptIntCommon).altH = s.altH := rfl
@[simp] theorem State.acceptIntCommon_altL (s : State) : (s.acceptIntCommon).altL = s.altL := rfl
@[simp] theorem State.acceptIntCommon_ix (s : State) : (s.acceptIntCommon).ix = s.ix := rfl
@[simp] theorem State.acceptIntCommon_iy (s : State) : (s.acceptIntCommon).iy = s.iy := rfl
@[simp] theorem State.acceptIntCommon_sp (s : State) : (s.acceptIntCommon).sp = s.sp := rfl
@[simp] theorem State.acceptIntCommon_pc (s : State) : (s.acceptIntCommon).pc = s.pc := rfl
@[simp] theorem State.acceptIntCommon_i (s : State) : (s.acceptIntCommon).i = s.i := rfl
@[simp] theorem State.acceptIntCommon_r (s : State) : (s.acceptIntCommon).r = s.r := rfl
@[simp] theorem State.acceptIntCommon_iff1 (s : State) : (s.acceptIntCommon).iff1 = false := rfl
@[simp] theorem State.acceptIntCommon_iff2 (s : State) : (s.acceptIntCommon).iff2 = false := rfl
@[simp] theorem State.acceptIntCommon_im (s : State) : (s.acceptIntCommon).im = s.im := rfl
@[simp] theorem State.acceptIntCommon_halted (s : State) : (s.acceptIntCommon).halted = false := rfl
@[simp] theorem State.acceptIntCommon_eiShadow (s : State) : (s.acceptIntCommon).eiShadow = false := rfl
@[simp] theorem State.acceptIntCommon_nmiPending (s : State) : (s.acceptIntCommon).nmiPending = s.nmiPending := rfl
@[simp] theorem State.acceptIntCommon_mem (s : State) : (s.acceptIntCommon).mem = s.mem := rfl
@[simp] theorem State.acceptIntCommon_params (s : State) : (s.acceptIntCommon).params = s.params := rfl
@[simp] theorem State.acceptIntCommon_inputs (s : State) : (s.acceptIntCommon).inputs = s.inputs := rfl
@[simp] theorem State.acceptIntCommon_ioSpace (s : State) : (s.acceptIntCommon).ioSpace = s.ioSpace := rfl
@[simp] theorem State.acceptIntCommon_bus (s : State) : (s.acceptIntCommon).bus = s.bus := rfl
@[simp] theorem State.acceptIntCommon_free (s : State) : (s.acceptIntCommon).free = s.free := rfl

/-! ## `respondMode1` -/

@[simp] theorem State.respondMode1_a (s : State) : (s.respondMode1).a = s.a := rfl
@[simp] theorem State.respondMode1_f (s : State) : (s.respondMode1).f = s.f := rfl
@[simp] theorem State.respondMode1_b (s : State) : (s.respondMode1).b = s.b := rfl
@[simp] theorem State.respondMode1_c (s : State) : (s.respondMode1).c = s.c := rfl
@[simp] theorem State.respondMode1_d (s : State) : (s.respondMode1).d = s.d := rfl
@[simp] theorem State.respondMode1_e (s : State) : (s.respondMode1).e = s.e := rfl
@[simp] theorem State.respondMode1_h (s : State) : (s.respondMode1).h = s.h := rfl
@[simp] theorem State.respondMode1_l (s : State) : (s.respondMode1).l = s.l := rfl
@[simp] theorem State.respondMode1_altA (s : State) : (s.respondMode1).altA = s.altA := rfl
@[simp] theorem State.respondMode1_altF (s : State) : (s.respondMode1).altF = s.altF := rfl
@[simp] theorem State.respondMode1_altB (s : State) : (s.respondMode1).altB = s.altB := rfl
@[simp] theorem State.respondMode1_altC (s : State) : (s.respondMode1).altC = s.altC := rfl
@[simp] theorem State.respondMode1_altD (s : State) : (s.respondMode1).altD = s.altD := rfl
@[simp] theorem State.respondMode1_altE (s : State) : (s.respondMode1).altE = s.altE := rfl
@[simp] theorem State.respondMode1_altH (s : State) : (s.respondMode1).altH = s.altH := rfl
@[simp] theorem State.respondMode1_altL (s : State) : (s.respondMode1).altL = s.altL := rfl
@[simp] theorem State.respondMode1_ix (s : State) : (s.respondMode1).ix = s.ix := rfl
@[simp] theorem State.respondMode1_iy (s : State) : (s.respondMode1).iy = s.iy := rfl
@[simp] theorem State.respondMode1_sp (s : State) : (s.respondMode1).sp = s.sp - 2#16 := rfl
@[simp] theorem State.respondMode1_pc (s : State) : (s.respondMode1).pc = 0x0038#16 := rfl
@[simp] theorem State.respondMode1_i (s : State) : (s.respondMode1).i = s.i := rfl
@[simp] theorem State.respondMode1_r (s : State) : (s.respondMode1).r = s.r := rfl
@[simp] theorem State.respondMode1_iff1 (s : State) : (s.respondMode1).iff1 = s.iff1 := rfl
@[simp] theorem State.respondMode1_iff2 (s : State) : (s.respondMode1).iff2 = s.iff2 := rfl
@[simp] theorem State.respondMode1_im (s : State) : (s.respondMode1).im = s.im := rfl
@[simp] theorem State.respondMode1_halted (s : State) : (s.respondMode1).halted = s.halted := rfl
@[simp] theorem State.respondMode1_eiShadow (s : State) : (s.respondMode1).eiShadow = s.eiShadow := rfl
@[simp] theorem State.respondMode1_nmiPending (s : State) : (s.respondMode1).nmiPending = s.nmiPending := rfl
@[simp] theorem State.respondMode1_params (s : State) : (s.respondMode1).params = s.params := rfl
@[simp] theorem State.respondMode1_inputs (s : State) : (s.respondMode1).inputs = s.inputs := rfl
@[simp] theorem State.respondMode1_ioSpace (s : State) : (s.respondMode1).ioSpace = s.ioSpace := rfl
@[simp] theorem State.respondMode1_bus (s : State) : (s.respondMode1).bus = s.bus := rfl
@[simp] theorem State.respondMode1_free (s : State) : (s.respondMode1).free = s.free := rfl

/-! ## `respondMode2` -/

@[simp] theorem State.respondMode2_a (s : State) (v : Byte) : (s.respondMode2 v).a = s.a := rfl
@[simp] theorem State.respondMode2_f (s : State) (v : Byte) : (s.respondMode2 v).f = s.f := rfl
@[simp] theorem State.respondMode2_b (s : State) (v : Byte) : (s.respondMode2 v).b = s.b := rfl
@[simp] theorem State.respondMode2_c (s : State) (v : Byte) : (s.respondMode2 v).c = s.c := rfl
@[simp] theorem State.respondMode2_d (s : State) (v : Byte) : (s.respondMode2 v).d = s.d := rfl
@[simp] theorem State.respondMode2_e (s : State) (v : Byte) : (s.respondMode2 v).e = s.e := rfl
@[simp] theorem State.respondMode2_h (s : State) (v : Byte) : (s.respondMode2 v).h = s.h := rfl
@[simp] theorem State.respondMode2_l (s : State) (v : Byte) : (s.respondMode2 v).l = s.l := rfl
@[simp] theorem State.respondMode2_altA (s : State) (v : Byte) : (s.respondMode2 v).altA = s.altA := rfl
@[simp] theorem State.respondMode2_altF (s : State) (v : Byte) : (s.respondMode2 v).altF = s.altF := rfl
@[simp] theorem State.respondMode2_altB (s : State) (v : Byte) : (s.respondMode2 v).altB = s.altB := rfl
@[simp] theorem State.respondMode2_altC (s : State) (v : Byte) : (s.respondMode2 v).altC = s.altC := rfl
@[simp] theorem State.respondMode2_altD (s : State) (v : Byte) : (s.respondMode2 v).altD = s.altD := rfl
@[simp] theorem State.respondMode2_altE (s : State) (v : Byte) : (s.respondMode2 v).altE = s.altE := rfl
@[simp] theorem State.respondMode2_altH (s : State) (v : Byte) : (s.respondMode2 v).altH = s.altH := rfl
@[simp] theorem State.respondMode2_altL (s : State) (v : Byte) : (s.respondMode2 v).altL = s.altL := rfl
@[simp] theorem State.respondMode2_ix (s : State) (v : Byte) : (s.respondMode2 v).ix = s.ix := rfl
@[simp] theorem State.respondMode2_iy (s : State) (v : Byte) : (s.respondMode2 v).iy = s.iy := rfl
@[simp] theorem State.respondMode2_sp (s : State) (v : Byte) : (s.respondMode2 v).sp = s.sp - 2#16 := rfl
@[simp] theorem State.respondMode2_pc (s : State) (v : Byte) : (s.respondMode2 v).pc = (s.push16 s.pc).read16 (s.vectorAddress v) := rfl
@[simp] theorem State.respondMode2_i (s : State) (v : Byte) : (s.respondMode2 v).i = s.i := rfl
@[simp] theorem State.respondMode2_r (s : State) (v : Byte) : (s.respondMode2 v).r = s.r := rfl
@[simp] theorem State.respondMode2_iff1 (s : State) (v : Byte) : (s.respondMode2 v).iff1 = s.iff1 := rfl
@[simp] theorem State.respondMode2_iff2 (s : State) (v : Byte) : (s.respondMode2 v).iff2 = s.iff2 := rfl
@[simp] theorem State.respondMode2_im (s : State) (v : Byte) : (s.respondMode2 v).im = s.im := rfl
@[simp] theorem State.respondMode2_halted (s : State) (v : Byte) : (s.respondMode2 v).halted = s.halted := rfl
@[simp] theorem State.respondMode2_eiShadow (s : State) (v : Byte) : (s.respondMode2 v).eiShadow = s.eiShadow := rfl
@[simp] theorem State.respondMode2_nmiPending (s : State) (v : Byte) : (s.respondMode2 v).nmiPending = s.nmiPending := rfl
@[simp] theorem State.respondMode2_mem (s : State) (v : Byte) : (s.respondMode2 v).mem = (s.push16 s.pc).mem := rfl
@[simp] theorem State.respondMode2_params (s : State) (v : Byte) : (s.respondMode2 v).params = s.params := rfl
@[simp] theorem State.respondMode2_inputs (s : State) (v : Byte) : (s.respondMode2 v).inputs = s.inputs := rfl
@[simp] theorem State.respondMode2_ioSpace (s : State) (v : Byte) : (s.respondMode2 v).ioSpace = s.ioSpace := rfl
@[simp] theorem State.respondMode2_bus (s : State) (v : Byte) : (s.respondMode2 v).bus = s.bus := rfl
@[simp] theorem State.respondMode2_free (s : State) (v : Byte) : (s.respondMode2 v).free = s.free := rfl

/-! ## `resetCpu` -/

@[simp] theorem State.resetCpu_a (s : State) : (s.resetCpu).a = s.params.resetState.a := rfl
@[simp] theorem State.resetCpu_f (s : State) : (s.resetCpu).f = s.params.resetState.f := rfl
@[simp] theorem State.resetCpu_b (s : State) : (s.resetCpu).b = s.params.resetState.b := rfl
@[simp] theorem State.resetCpu_c (s : State) : (s.resetCpu).c = s.params.resetState.c := rfl
@[simp] theorem State.resetCpu_d (s : State) : (s.resetCpu).d = s.params.resetState.d := rfl
@[simp] theorem State.resetCpu_e (s : State) : (s.resetCpu).e = s.params.resetState.e := rfl
@[simp] theorem State.resetCpu_h (s : State) : (s.resetCpu).h = s.params.resetState.h := rfl
@[simp] theorem State.resetCpu_l (s : State) : (s.resetCpu).l = s.params.resetState.l := rfl
@[simp] theorem State.resetCpu_altA (s : State) : (s.resetCpu).altA = s.params.resetState.altA := rfl
@[simp] theorem State.resetCpu_altF (s : State) : (s.resetCpu).altF = s.params.resetState.altF := rfl
@[simp] theorem State.resetCpu_altB (s : State) : (s.resetCpu).altB = s.params.resetState.altB := rfl
@[simp] theorem State.resetCpu_altC (s : State) : (s.resetCpu).altC = s.params.resetState.altC := rfl
@[simp] theorem State.resetCpu_altD (s : State) : (s.resetCpu).altD = s.params.resetState.altD := rfl
@[simp] theorem State.resetCpu_altE (s : State) : (s.resetCpu).altE = s.params.resetState.altE := rfl
@[simp] theorem State.resetCpu_altH (s : State) : (s.resetCpu).altH = s.params.resetState.altH := rfl
@[simp] theorem State.resetCpu_altL (s : State) : (s.resetCpu).altL = s.params.resetState.altL := rfl
@[simp] theorem State.resetCpu_ix (s : State) : (s.resetCpu).ix = s.params.resetState.ix := rfl
@[simp] theorem State.resetCpu_iy (s : State) : (s.resetCpu).iy = s.params.resetState.iy := rfl
@[simp] theorem State.resetCpu_sp (s : State) : (s.resetCpu).sp = s.params.resetState.sp := rfl
@[simp] theorem State.resetCpu_pc (s : State) : (s.resetCpu).pc = 0#16 := rfl
@[simp] theorem State.resetCpu_i (s : State) : (s.resetCpu).i = 0#8 := rfl
@[simp] theorem State.resetCpu_r (s : State) : (s.resetCpu).r = 0#8 := rfl
@[simp] theorem State.resetCpu_iff1 (s : State) : (s.resetCpu).iff1 = false := rfl
@[simp] theorem State.resetCpu_iff2 (s : State) : (s.resetCpu).iff2 = false := rfl
@[simp] theorem State.resetCpu_im (s : State) : (s.resetCpu).im = .im0 := rfl
@[simp] theorem State.resetCpu_halted (s : State) : (s.resetCpu).halted = false := rfl
@[simp] theorem State.resetCpu_eiShadow (s : State) : (s.resetCpu).eiShadow = false := rfl
@[simp] theorem State.resetCpu_nmiPending (s : State) : (s.resetCpu).nmiPending = false := rfl
@[simp] theorem State.resetCpu_mem (s : State) : (s.resetCpu).mem = s.mem := rfl
@[simp] theorem State.resetCpu_params (s : State) : (s.resetCpu).params = s.params := rfl
@[simp] theorem State.resetCpu_inputs (s : State) : (s.resetCpu).inputs = s.inputs := rfl
@[simp] theorem State.resetCpu_ioSpace (s : State) : (s.resetCpu).ioSpace = s.ioSpace := rfl
@[simp] theorem State.resetCpu_bus (s : State) : (s.resetCpu).bus = s.bus := rfl
@[simp] theorem State.resetCpu_free (s : State) : (s.resetCpu).free = s.free := rfl

/-! ## `afterFetch` -/

@[simp] theorem State.afterFetch_a (s : State) (i : Instr) : (s.afterFetch i).a = s.a := rfl
@[simp] theorem State.afterFetch_f (s : State) (i : Instr) : (s.afterFetch i).f = s.f := rfl
@[simp] theorem State.afterFetch_b (s : State) (i : Instr) : (s.afterFetch i).b = s.b := rfl
@[simp] theorem State.afterFetch_c (s : State) (i : Instr) : (s.afterFetch i).c = s.c := rfl
@[simp] theorem State.afterFetch_d (s : State) (i : Instr) : (s.afterFetch i).d = s.d := rfl
@[simp] theorem State.afterFetch_e (s : State) (i : Instr) : (s.afterFetch i).e = s.e := rfl
@[simp] theorem State.afterFetch_h (s : State) (i : Instr) : (s.afterFetch i).h = s.h := rfl
@[simp] theorem State.afterFetch_l (s : State) (i : Instr) : (s.afterFetch i).l = s.l := rfl
@[simp] theorem State.afterFetch_altA (s : State) (i : Instr) : (s.afterFetch i).altA = s.altA := rfl
@[simp] theorem State.afterFetch_altF (s : State) (i : Instr) : (s.afterFetch i).altF = s.altF := rfl
@[simp] theorem State.afterFetch_altB (s : State) (i : Instr) : (s.afterFetch i).altB = s.altB := rfl
@[simp] theorem State.afterFetch_altC (s : State) (i : Instr) : (s.afterFetch i).altC = s.altC := rfl
@[simp] theorem State.afterFetch_altD (s : State) (i : Instr) : (s.afterFetch i).altD = s.altD := rfl
@[simp] theorem State.afterFetch_altE (s : State) (i : Instr) : (s.afterFetch i).altE = s.altE := rfl
@[simp] theorem State.afterFetch_altH (s : State) (i : Instr) : (s.afterFetch i).altH = s.altH := rfl
@[simp] theorem State.afterFetch_altL (s : State) (i : Instr) : (s.afterFetch i).altL = s.altL := rfl
@[simp] theorem State.afterFetch_ix (s : State) (i : Instr) : (s.afterFetch i).ix = s.ix := rfl
@[simp] theorem State.afterFetch_iy (s : State) (i : Instr) : (s.afterFetch i).iy = s.iy := rfl
@[simp] theorem State.afterFetch_sp (s : State) (i : Instr) : (s.afterFetch i).sp = s.sp := rfl
@[simp] theorem State.afterFetch_pc (s : State) (i : Instr) : (s.afterFetch i).pc = s.pc + BitVec.ofNat 16 i.length := rfl
@[simp] theorem State.afterFetch_i (s : State) (i : Instr) : (s.afterFetch i).i = s.i := rfl
@[simp] theorem State.afterFetch_r (s : State) (i : Instr) : (s.afterFetch i).r = s.r := rfl
@[simp] theorem State.afterFetch_iff1 (s : State) (i : Instr) : (s.afterFetch i).iff1 = s.iff1 := rfl
@[simp] theorem State.afterFetch_iff2 (s : State) (i : Instr) : (s.afterFetch i).iff2 = s.iff2 := rfl
@[simp] theorem State.afterFetch_im (s : State) (i : Instr) : (s.afterFetch i).im = s.im := rfl
@[simp] theorem State.afterFetch_halted (s : State) (i : Instr) : (s.afterFetch i).halted = s.halted := rfl
@[simp] theorem State.afterFetch_eiShadow (s : State) (i : Instr) : (s.afterFetch i).eiShadow = false := rfl
@[simp] theorem State.afterFetch_nmiPending (s : State) (i : Instr) : (s.afterFetch i).nmiPending = s.nmiPending := rfl
@[simp] theorem State.afterFetch_mem (s : State) (i : Instr) : (s.afterFetch i).mem = s.mem := rfl
@[simp] theorem State.afterFetch_params (s : State) (i : Instr) : (s.afterFetch i).params = s.params := rfl
@[simp] theorem State.afterFetch_inputs (s : State) (i : Instr) : (s.afterFetch i).inputs = s.inputs := rfl
@[simp] theorem State.afterFetch_ioSpace (s : State) (i : Instr) : (s.afterFetch i).ioSpace = s.ioSpace := rfl
@[simp] theorem State.afterFetch_bus (s : State) (i : Instr) : (s.afterFetch i).bus = s.bus := rfl
@[simp] theorem State.afterFetch_free (s : State) (i : Instr) : (s.afterFetch i).free = s.free + 1 := rfl

/-! ## `afterSampling` -/

@[simp] theorem State.afterSampling_a (s : State) : (s.afterSampling).a = s.a := rfl
@[simp] theorem State.afterSampling_f (s : State) : (s.afterSampling).f = s.f := rfl
@[simp] theorem State.afterSampling_b (s : State) : (s.afterSampling).b = s.b := rfl
@[simp] theorem State.afterSampling_c (s : State) : (s.afterSampling).c = s.c := rfl
@[simp] theorem State.afterSampling_d (s : State) : (s.afterSampling).d = s.d := rfl
@[simp] theorem State.afterSampling_e (s : State) : (s.afterSampling).e = s.e := rfl
@[simp] theorem State.afterSampling_h (s : State) : (s.afterSampling).h = s.h := rfl
@[simp] theorem State.afterSampling_l (s : State) : (s.afterSampling).l = s.l := rfl
@[simp] theorem State.afterSampling_altA (s : State) : (s.afterSampling).altA = s.altA := rfl
@[simp] theorem State.afterSampling_altF (s : State) : (s.afterSampling).altF = s.altF := rfl
@[simp] theorem State.afterSampling_altB (s : State) : (s.afterSampling).altB = s.altB := rfl
@[simp] theorem State.afterSampling_altC (s : State) : (s.afterSampling).altC = s.altC := rfl
@[simp] theorem State.afterSampling_altD (s : State) : (s.afterSampling).altD = s.altD := rfl
@[simp] theorem State.afterSampling_altE (s : State) : (s.afterSampling).altE = s.altE := rfl
@[simp] theorem State.afterSampling_altH (s : State) : (s.afterSampling).altH = s.altH := rfl
@[simp] theorem State.afterSampling_altL (s : State) : (s.afterSampling).altL = s.altL := rfl
@[simp] theorem State.afterSampling_ix (s : State) : (s.afterSampling).ix = s.ix := rfl
@[simp] theorem State.afterSampling_iy (s : State) : (s.afterSampling).iy = s.iy := rfl
@[simp] theorem State.afterSampling_sp (s : State) : (s.afterSampling).sp = s.sp := rfl
@[simp] theorem State.afterSampling_pc (s : State) : (s.afterSampling).pc = s.pc := rfl
@[simp] theorem State.afterSampling_i (s : State) : (s.afterSampling).i = s.i := rfl
@[simp] theorem State.afterSampling_r (s : State) : (s.afterSampling).r = s.r := rfl
@[simp] theorem State.afterSampling_iff1 (s : State) : (s.afterSampling).iff1 = s.iff1 := rfl
@[simp] theorem State.afterSampling_iff2 (s : State) : (s.afterSampling).iff2 = s.iff2 := rfl
@[simp] theorem State.afterSampling_im (s : State) : (s.afterSampling).im = s.im := rfl
@[simp] theorem State.afterSampling_halted (s : State) : (s.afterSampling).halted = s.halted := rfl
@[simp] theorem State.afterSampling_eiShadow (s : State) : (s.afterSampling).eiShadow = s.eiShadow := rfl
@[simp] theorem State.afterSampling_nmiPending (s : State) : (s.afterSampling).nmiPending = (s.nmiPending || s.boundaryInput.nmi) := rfl
@[simp] theorem State.afterSampling_mem (s : State) : (s.afterSampling).mem = s.mem := rfl
@[simp] theorem State.afterSampling_params (s : State) : (s.afterSampling).params = s.params := rfl
@[simp] theorem State.afterSampling_inputs (s : State) : (s.afterSampling).inputs = s.inputs.tail := rfl
@[simp] theorem State.afterSampling_ioSpace (s : State) : (s.afterSampling).ioSpace = s.ioSpace := rfl
@[simp] theorem State.afterSampling_bus (s : State) : (s.afterSampling).bus = s.bus := rfl
@[simp] theorem State.afterSampling_free (s : State) : (s.afterSampling).free = s.free := rfl

/-! ## `idle` -/

@[simp] theorem State.idle_a (s : State) : (s.idle).a = s.a := rfl
@[simp] theorem State.idle_f (s : State) : (s.idle).f = s.f := rfl
@[simp] theorem State.idle_b (s : State) : (s.idle).b = s.b := rfl
@[simp] theorem State.idle_c (s : State) : (s.idle).c = s.c := rfl
@[simp] theorem State.idle_d (s : State) : (s.idle).d = s.d := rfl
@[simp] theorem State.idle_e (s : State) : (s.idle).e = s.e := rfl
@[simp] theorem State.idle_h (s : State) : (s.idle).h = s.h := rfl
@[simp] theorem State.idle_l (s : State) : (s.idle).l = s.l := rfl
@[simp] theorem State.idle_altA (s : State) : (s.idle).altA = s.altA := rfl
@[simp] theorem State.idle_altF (s : State) : (s.idle).altF = s.altF := rfl
@[simp] theorem State.idle_altB (s : State) : (s.idle).altB = s.altB := rfl
@[simp] theorem State.idle_altC (s : State) : (s.idle).altC = s.altC := rfl
@[simp] theorem State.idle_altD (s : State) : (s.idle).altD = s.altD := rfl
@[simp] theorem State.idle_altE (s : State) : (s.idle).altE = s.altE := rfl
@[simp] theorem State.idle_altH (s : State) : (s.idle).altH = s.altH := rfl
@[simp] theorem State.idle_altL (s : State) : (s.idle).altL = s.altL := rfl
@[simp] theorem State.idle_ix (s : State) : (s.idle).ix = s.ix := rfl
@[simp] theorem State.idle_iy (s : State) : (s.idle).iy = s.iy := rfl
@[simp] theorem State.idle_sp (s : State) : (s.idle).sp = s.sp := rfl
@[simp] theorem State.idle_pc (s : State) : (s.idle).pc = s.pc := rfl
@[simp] theorem State.idle_i (s : State) : (s.idle).i = s.i := rfl
@[simp] theorem State.idle_r (s : State) : (s.idle).r = s.steppedR (some .nop) := rfl
@[simp] theorem State.idle_iff1 (s : State) : (s.idle).iff1 = s.iff1 := rfl
@[simp] theorem State.idle_iff2 (s : State) : (s.idle).iff2 = s.iff2 := rfl
@[simp] theorem State.idle_im (s : State) : (s.idle).im = s.im := rfl
@[simp] theorem State.idle_halted (s : State) : (s.idle).halted = s.halted := rfl
@[simp] theorem State.idle_eiShadow (s : State) : (s.idle).eiShadow = false := rfl
@[simp] theorem State.idle_nmiPending (s : State) : (s.idle).nmiPending = s.nmiPending := rfl
@[simp] theorem State.idle_mem (s : State) : (s.idle).mem = s.mem := rfl
@[simp] theorem State.idle_params (s : State) : (s.idle).params = s.params := rfl
@[simp] theorem State.idle_inputs (s : State) : (s.idle).inputs = s.inputs := rfl
@[simp] theorem State.idle_ioSpace (s : State) : (s.idle).ioSpace = s.ioSpace := rfl
@[simp] theorem State.idle_bus (s : State) : (s.idle).bus = s.bus := rfl
@[simp] theorem State.idle_free (s : State) : (s.idle).free = s.free + 1 := rfl

/-! ## `writeReg`: the fields it cannot change, and the register it writes -/

@[simp] theorem State.writeReg_f (s : State) (q : Reg) (v : Byte) : (s.writeReg q v).f = s.f := by
  cases q <;> rfl
@[simp] theorem State.writeReg_altA (s : State) (q : Reg) (v : Byte) : (s.writeReg q v).altA = s.altA := by
  cases q <;> rfl
@[simp] theorem State.writeReg_altF (s : State) (q : Reg) (v : Byte) : (s.writeReg q v).altF = s.altF := by
  cases q <;> rfl
@[simp] theorem State.writeReg_altB (s : State) (q : Reg) (v : Byte) : (s.writeReg q v).altB = s.altB := by
  cases q <;> rfl
@[simp] theorem State.writeReg_altC (s : State) (q : Reg) (v : Byte) : (s.writeReg q v).altC = s.altC := by
  cases q <;> rfl
@[simp] theorem State.writeReg_altD (s : State) (q : Reg) (v : Byte) : (s.writeReg q v).altD = s.altD := by
  cases q <;> rfl
@[simp] theorem State.writeReg_altE (s : State) (q : Reg) (v : Byte) : (s.writeReg q v).altE = s.altE := by
  cases q <;> rfl
@[simp] theorem State.writeReg_altH (s : State) (q : Reg) (v : Byte) : (s.writeReg q v).altH = s.altH := by
  cases q <;> rfl
@[simp] theorem State.writeReg_altL (s : State) (q : Reg) (v : Byte) : (s.writeReg q v).altL = s.altL := by
  cases q <;> rfl
@[simp] theorem State.writeReg_ix (s : State) (q : Reg) (v : Byte) : (s.writeReg q v).ix = s.ix := by
  cases q <;> rfl
@[simp] theorem State.writeReg_iy (s : State) (q : Reg) (v : Byte) : (s.writeReg q v).iy = s.iy := by
  cases q <;> rfl
@[simp] theorem State.writeReg_sp (s : State) (q : Reg) (v : Byte) : (s.writeReg q v).sp = s.sp := by
  cases q <;> rfl
@[simp] theorem State.writeReg_pc (s : State) (q : Reg) (v : Byte) : (s.writeReg q v).pc = s.pc := by
  cases q <;> rfl
@[simp] theorem State.writeReg_i (s : State) (q : Reg) (v : Byte) : (s.writeReg q v).i = s.i := by
  cases q <;> rfl
@[simp] theorem State.writeReg_r (s : State) (q : Reg) (v : Byte) : (s.writeReg q v).r = s.r := by
  cases q <;> rfl
@[simp] theorem State.writeReg_iff1 (s : State) (q : Reg) (v : Byte) : (s.writeReg q v).iff1 = s.iff1 := by
  cases q <;> rfl
@[simp] theorem State.writeReg_iff2 (s : State) (q : Reg) (v : Byte) : (s.writeReg q v).iff2 = s.iff2 := by
  cases q <;> rfl
@[simp] theorem State.writeReg_im (s : State) (q : Reg) (v : Byte) : (s.writeReg q v).im = s.im := by
  cases q <;> rfl
@[simp] theorem State.writeReg_halted (s : State) (q : Reg) (v : Byte) : (s.writeReg q v).halted = s.halted := by
  cases q <;> rfl
@[simp] theorem State.writeReg_eiShadow (s : State) (q : Reg) (v : Byte) : (s.writeReg q v).eiShadow = s.eiShadow := by
  cases q <;> rfl
@[simp] theorem State.writeReg_nmiPending (s : State) (q : Reg) (v : Byte) : (s.writeReg q v).nmiPending = s.nmiPending := by
  cases q <;> rfl
@[simp] theorem State.writeReg_mem (s : State) (q : Reg) (v : Byte) : (s.writeReg q v).mem = s.mem := by
  cases q <;> rfl
@[simp] theorem State.writeReg_params (s : State) (q : Reg) (v : Byte) : (s.writeReg q v).params = s.params := by
  cases q <;> rfl
@[simp] theorem State.writeReg_inputs (s : State) (q : Reg) (v : Byte) : (s.writeReg q v).inputs = s.inputs := by
  cases q <;> rfl
@[simp] theorem State.writeReg_ioSpace (s : State) (q : Reg) (v : Byte) : (s.writeReg q v).ioSpace = s.ioSpace := by
  cases q <;> rfl
@[simp] theorem State.writeReg_bus (s : State) (q : Reg) (v : Byte) : (s.writeReg q v).bus = s.bus := by
  cases q <;> rfl
@[simp] theorem State.writeReg_free (s : State) (q : Reg) (v : Byte) : (s.writeReg q v).free = s.free := by
  cases q <;> rfl
@[simp] theorem State.readReg_writeReg_same (s : State) (q : Reg) (v : Byte) : (s.writeReg q v).readReg q = v := by
  cases q <;> rfl

theorem State.readReg_writeReg_other (s : State) {q p : Reg} (v : Byte) (h : p ≠ q) :
    (s.writeReg q v).readReg p = s.readReg p := by
  cases q <;> cases p <;> first | rfl | exact absurd rfl h

end Sys2Proof.Machine
end

