-- ==== Sys2Proof/Laws/Memory.lean ====
section
/-! SUPPORT. Memory: reading after writing, and the canonical form kept by every memory operation. -/

namespace Sys2Proof.Machine

/-! ## Reading after writing -/

theorem Memory.read_write_other (m : Memory) (a x : Nat) (v : Byte) (h : x ≠ a) :
    Memory.read (Memory.write m a v) x = Memory.read m x := by
  induction m with
  | nil =>
    simp only [Memory.write]
    split <;> simp [Memory.read, h]
  | cons cell m ih =>
    obtain ⟨k, w⟩ := cell
    simp only [Memory.write]
    split
    · split <;> simp [Memory.read, h]
    · split
      · next hk =>
        subst hk
        split <;> simp [Memory.read, h]
      · simp only [Memory.read]
        split
        · rfl
        · exact ih

/-- What the canonical form says of a non-empty memory. -/
theorem Memory.wfFrom_cons {lo k : Nat} {w : Byte} {m : Memory} :
    Memory.wfFrom lo ((k, w) :: m) = true ↔
      lo ≤ k ∧ k < 65536 ∧ w ≠ Memory.unlisted ∧ Memory.wfFrom (k + 1) m = true := by
  simp [Memory.wfFrom, Nat.ble_eq, Nat.blt_eq, and_assoc]

theorem Memory.wfFrom_mono {m : Memory} {lo lo' : Nat} (h : Memory.wfFrom lo' m = true) (hl : lo ≤ lo') :
    Memory.wfFrom lo m = true := by
  cases m with
  | nil => rfl
  | cons cell m =>
    obtain ⟨k, w⟩ := cell
    rw [Memory.wfFrom_cons] at h ⊢
    exact ⟨le_trans hl h.1, h.2⟩

/-- Below the first address a memory in canonical form holds nothing. -/
theorem Memory.read_below {m : Memory} {lo x : Nat} (h : Memory.wfFrom lo m = true) (hx : x < lo) :
    Memory.read m x = Memory.unlisted := by
  induction m generalizing lo with
  | nil => rfl
  | cons cell m ih =>
    obtain ⟨k, w⟩ := cell
    rw [Memory.wfFrom_cons] at h
    have hk : x ≠ k := by omega
    simp only [Memory.read, if_neg hk]
    exact ih h.2.2.2 (by omega)

theorem Memory.read_write_same_from {m : Memory} {lo : Nat} (a : Nat) (v : Byte)
    (h : Memory.wfFrom lo m = true) : Memory.read (Memory.write m a v) a = v := by
  induction m generalizing lo with
  | nil =>
    simp only [Memory.write]
    split
    · next hv => simp [Memory.read, hv]
    · simp [Memory.read]
  | cons cell m ih =>
    obtain ⟨k, w⟩ := cell
    rw [Memory.wfFrom_cons] at h
    simp only [Memory.write]
    split
    · next hlt =>
      split
      · next hv =>
        rw [hv]
        exact Memory.read_below (lo := k) (by rw [Memory.wfFrom_cons]; exact ⟨le_refl k, h.2⟩) hlt
      · simp [Memory.read]
    · split
      · next hk =>
        subst hk
        split
        · next hv => rw [hv]; exact Memory.read_below h.2.2.2 (Nat.lt_succ_self _)
        · simp [Memory.read]
      · next hk =>
        simp only [Memory.read, if_neg hk]
        exact ih h.2.2.2

theorem Memory.read_write_same {m : Memory} (a : Nat) (v : Byte) (h : Memory.wf m = true) :
    Memory.read (Memory.write m a v) a = v := Memory.read_write_same_from a v h

/-! ## The canonical form is kept -/

theorem Memory.write_wfFrom {m : Memory} {lo : Nat} (a : Nat) (v : Byte) (h : Memory.wfFrom lo m = true)
    (hl : lo ≤ a) (ha : a < 65536) : Memory.wfFrom lo (Memory.write m a v) = true := by
  induction m generalizing lo with
  | nil =>
    simp only [Memory.write]
    split
    · rfl
    · next hv => rw [Memory.wfFrom_cons]; exact ⟨hl, ha, hv, rfl⟩
  | cons cell m ih =>
    obtain ⟨k, w⟩ := cell
    simp only [Memory.write]
    have hc := Memory.wfFrom_cons.mp h
    split
    · next hlt =>
      split
      · exact h
      · next hv =>
        rw [Memory.wfFrom_cons]
        exact ⟨hl, ha, hv, Memory.wfFrom_cons.mpr ⟨hlt, hc.2⟩⟩
    · split
      · next hk =>
        subst hk
        split
        · exact Memory.wfFrom_mono hc.2.2.2 (by omega)
        · next hv => exact Memory.wfFrom_cons.mpr ⟨hl, ha, hv, hc.2.2.2⟩
      · next hge hk =>
        exact Memory.wfFrom_cons.mpr ⟨hc.1, hc.2.1, hc.2.2.1, ih hc.2.2.2 (by omega)⟩

theorem Memory.write_wf {m : Memory} (a : Nat) (v : Byte) (h : Memory.wf m = true) (ha : a < 65536) :
    Memory.wf (Memory.write m a v) = true := Memory.write_wfFrom a v h (Nat.zero_le a) ha

theorem Memory.load_wf {m : Memory} (x : Word) (vs : List Byte) (h : Memory.wf m = true) :
    Memory.wf (Memory.load m x vs) = true := by
  induction vs generalizing m x with
  | nil => exact h
  | cons v vs ih => exact ih _ (Memory.write_wf _ _ h x.isLt)

theorem State.reset_mem_wf : Memory.wf State.reset.mem = true := rfl

theorem State.memAfter_wf {s : State} (x : Word) (v : Byte) (h : Memory.wf s.mem = true) :
    Memory.wf (s.memAfter x v) = true := by
  unfold State.memAfter
  split
  · exact Memory.write_wf _ _ h x.isLt
  · exact h

theorem State.write8_wf {s : State} (x : Word) (v : Byte) (h : Memory.wf s.mem = true) :
    Memory.wf (s.write8 x v).mem = true := State.memAfter_wf x v h

theorem State.write16_wf {s : State} (x v : Word) (h : Memory.wf s.mem = true) :
    Memory.wf (s.write16 x v).mem = true := State.write8_wf _ _ (State.write8_wf _ _ h)

theorem State.push16_wf {s : State} (v : Word) (h : Memory.wf s.mem = true) :
    Memory.wf (s.push16 v).mem = true := State.memAfter_wf _ _ (State.write8_wf _ _ h)

theorem State.exchangeTop_wf {s : State} (v : Word) (h : Memory.wf s.mem = true) :
    Memory.wf (s.exchangeTop v).mem = true := State.write8_wf _ _ (State.write8_wf _ _ h)

theorem State.withFetchWord_wf {s : State} (nbits w : Nat) (h : Memory.wf s.mem = true) :
    Memory.wf (s.withFetchWord nbits w).mem = true := Memory.load_wf _ _ h

/-! ## What a store does to the byte held at an address -/

theorem State.memAfter_held (s : State) (x y : Word) (v : Byte) (h : Memory.wf s.mem = true) :
    Memory.read (s.memAfter x v) y.toNat = if y = x ∧ s.kindAt x = .ram then v else s.held y := by
  unfold State.memAfter State.held
  by_cases hy : y = x
  · subst hy
    cases hk : s.kindAt y <;> simp [Memory.read_write_same _ _ h]
  · have hn : y.toNat ≠ x.toNat := fun e => hy (BitVec.eq_of_toNat_eq e)
    cases hk : s.kindAt x <;> simp [hy, Memory.read_write_other _ _ _ _ hn]

@[simp] theorem State.write8_kindAt (s : State) (x y : Word) (v : Byte) : (s.write8 x v).kindAt y = s.kindAt y := rfl

theorem State.write8_held {s : State} (x y : Word) (v : Byte) (h : Memory.wf s.mem = true) :
    (s.write8 x v).held y = if y = x ∧ s.kindAt x = .ram then v else s.held y :=
  State.memAfter_held s x y v h

/-- A one-byte store does exactly what `StoresByte` says. -/
theorem State.write8_stores {s : State} (x : Word) (v : Byte) (h : Memory.wf s.mem = true) :
    StoresByte s (s.write8 x v) x v := by
  refine ⟨fun hk => ?_, fun hk => ?_, fun y hy => ?_⟩ <;> rw [State.write8_held _ _ _ h]
  · simp [hk]
  · simp [hk]
  · simp [hy]

theorem word_succ_ne (x : Word) : x ≠ x + 1#16 := by
  intro h
  bv_omega

/-- Two one-byte stores at an address and the next, in either order, do exactly what `StoresWord` says. -/
theorem StoresWord.of_held {s t : State} {x v : Word}
    (ht : ∀ y, t.held y =
      if y = x ∧ s.kindAt x = .ram then loByte v
      else if y = x + 1#16 ∧ s.kindAt (x + 1#16) = .ram then hiByte v else s.held y) :
    StoresWord s t x v := by
  have hne := word_succ_ne x
  refine ⟨fun hk => ?_, fun hk => ?_, fun hk => ?_, fun hk => ?_, fun y h1 h2 => ?_⟩ <;> rw [ht]
  · simp [hk]
  · simp [hk, hne]
  · simp [hk, Ne.symm hne]
  · simp [hk, Ne.symm hne]
  · simp [h1, h2]

/-- A 16-bit store does exactly what `StoresWord` says. -/
theorem State.write16_stores {s : State} (x v : Word) (h : Memory.wf s.mem = true) :
    StoresWord s (s.write16 x v) x v := by
  apply StoresWord.of_held
  intro y
  have hne := word_succ_ne x
  unfold State.write16
  rw [State.write8_held _ _ _ (State.write8_wf _ _ h), State.write8_held _ _ _ h, State.write8_kindAt]
  by_cases h1 : y = x
  · simp [h1, hne]
  · by_cases h2 : y = x + 1#16 <;> simp [h1, h2, Ne.symm hne]

theorem word_sub_two_succ (x : Word) : x - 2#16 + 1#16 = x - 1#16 := by bv_omega

/-- A push does exactly what `StoresWord` says, at SP - 2 (00_scope.md R21). -/
theorem State.push16_stores {s : State} (v : Word) (h : Memory.wf s.mem = true) :
    StoresWord s (s.push16 v) (s.sp - 2#16) v := by
  apply StoresWord.of_held
  intro y
  have hne := word_succ_ne (s.sp - 2#16)
  rw [word_sub_two_succ] at hne ⊢
  have hp : (s.push16 v).held y
      = Memory.read ((s.write8 (s.sp - 1#16) (hiByte v)).memAfter (s.sp - 2#16) (loByte v)) y.toNat := rfl
  rw [hp, State.memAfter_held _ _ _ _ (State.write8_wf _ _ h), State.write8_held _ _ _ h, State.write8_kindAt]

/-- The exchange with the top of the stack stores exactly what `StoresWord` says, at SP (42 R284). -/
theorem State.exchangeTop_stores {s : State} (v : Word) (h : Memory.wf s.mem = true) :
    StoresWord s (s.exchangeTop v) s.sp v := by
  apply StoresWord.of_held
  intro y
  unfold State.exchangeTop
  rw [State.write8_held _ _ _ (State.write8_wf _ _ h), State.write8_held _ _ _ h, State.write8_kindAt]

/-! ## A store looks at memory, the memory map and its address alone -/

theorem State.memAfter_congr {s s' : State} (x : Word) (v : Byte) (hm : s'.mem = s.mem) (hp : s'.params = s.params) :
    s'.memAfter x v = s.memAfter x v := by
  unfold State.memAfter State.kindAt
  rw [hm, hp]

theorem State.push16_mem_congr {s s' : State} (v : Word) (hm : s'.mem = s.mem) (hp : s'.params = s.params)
    (hs : s'.sp = s.sp) : (s'.push16 v).mem = (s.push16 v).mem := by
  show (s'.write8 (s'.sp - 1#16) (hiByte v)).memAfter (s'.sp - 2#16) (loByte v) =
    (s.write8 (s.sp - 1#16) (hiByte v)).memAfter (s.sp - 2#16) (loByte v)
  rw [hs]
  exact State.memAfter_congr _ _ (State.memAfter_congr _ _ hm hp) hp

/-! ## Addresses that are not RAM keep their byte -/

theorem State.memAfter_not_ram (s : State) (x : Word) (v : Byte) (y : Nat)
    (hy : kindIn s.params.memMap y ≠ .ram) : Memory.read (s.memAfter x v) y = Memory.read s.mem y := by
  unfold State.memAfter
  by_cases hx : y = x.toNat
  · subst hx
    cases hk : s.kindAt x <;> first | rfl | exact absurd hk hy
  · cases hk : s.kindAt x <;> simp [Memory.read_write_other _ _ _ _ hx]

end Sys2Proof.Machine
end

