-- ==== Sys2Proof/Laws/Word.lean ====
section
/-! SUPPORT. Words and their halves, and the flag register and its byte. -/

namespace Sys2Proof

@[simp] theorem hiByte_mkWord (hi lo : Byte) : hiByte (mkWord hi lo) = hi := by
  apply BitVec.eq_of_getLsbD_eq
  intro k hk
  simp only [hiByte, mkWord, BitVec.getLsbD_extractLsb', BitVec.getLsbD_append]
  simp [hk, show ¬ (8 + k < 8) by omega]

@[simp] theorem loByte_mkWord (hi lo : Byte) : loByte (mkWord hi lo) = lo := by
  apply BitVec.eq_of_getLsbD_eq
  intro k hk
  simp only [loByte, mkWord, BitVec.getLsbD_extractLsb', BitVec.getLsbD_append]
  simp [hk]

@[simp] theorem mkWord_hiByte_loByte (w : Word) : mkWord (hiByte w) (loByte w) = w := by
  apply BitVec.eq_of_getLsbD_eq
  intro k hk
  simp only [hiByte, loByte, mkWord, BitVec.getLsbD_extractLsb', BitVec.getLsbD_append]
  by_cases h : k < 8
  · simp [h]
  · simp [h, show k - 8 < 8 by omega, show 8 + (k - 8) = k by omega]

namespace Machine

@[simp] theorem Flags.ofByte_toByte (f : Flags) : Flags.ofByte f.toByte = f := by
  obtain ⟨s, z, b5, h, b3, pv, n, c⟩ := f
  cases s <;> cases z <;> cases b5 <;> cases h <;> cases b3 <;> cases pv <;> cases n <;> cases c <;> rfl

@[simp] theorem Flags.toByte_ofByte (v : Byte) : (Flags.ofByte v).toByte = v := by
  revert v
  decide

theorem Flags.toByte_injective {f g : Flags} (h : f.toByte = g.toByte) : f = g := by
  rw [← Flags.ofByte_toByte f, h, Flags.ofByte_toByte]

@[simp] theorem Flags.withNamed_named (f : Flags) (g : NamedFlags) : (f.withNamed g).named = g := rfl

@[simp] theorem Flags.withNamed_s (f : Flags) (g : NamedFlags) : (f.withNamed g).s = g.s := rfl
@[simp] theorem Flags.withNamed_z (f : Flags) (g : NamedFlags) : (f.withNamed g).z = g.z := rfl
@[simp] theorem Flags.withNamed_h (f : Flags) (g : NamedFlags) : (f.withNamed g).h = g.h := rfl
@[simp] theorem Flags.withNamed_pv (f : Flags) (g : NamedFlags) : (f.withNamed g).pv = g.pv := rfl
@[simp] theorem Flags.withNamed_n (f : Flags) (g : NamedFlags) : (f.withNamed g).n = g.n := rfl
@[simp] theorem Flags.withNamed_c (f : Flags) (g : NamedFlags) : (f.withNamed g).c = g.c := rfl

end Machine

end Sys2Proof
end

