-- ==== Sys2Proof/Laws/Ops.lean ====
section
/-! SUPPORT. One lemma for each shared operation that says what it does: entries and returns, the stack, R, the operand
writes, and that every meaning answers a next state. -/

namespace Sys2Proof.Machine

/-! ## Stores seen from another state with the same memory -/

/-- `StoresByte` looks at memory and the memory map alone. -/
theorem StoresByte.congr {s s' t t' : State} {x : Word} {v : Byte} (hm : s'.mem = s.mem) (hp : s'.params = s.params)
    (ht : t'.mem = t.mem) (h : StoresByte s t x v) : StoresByte s' t' x v := by
  simpa only [StoresByte, State.held, State.kindAt, hm, hp, ht] using h

/-- `StoresWord` looks at memory and the memory map alone. -/
theorem StoresWord.congr {s s' t t' : State} {x v : Word} (hm : s'.mem = s.mem) (hp : s'.params = s.params)
    (ht : t'.mem = t.mem) (h : StoresWord s t x v) : StoresWord s' t' x v := by
  simpa only [StoresWord, State.held, State.kindAt, hm, hp, ht] using h

/-- An entry stores PC at SP - 2 and SP - 1, moves SP, goes to its target, and does nothing else
(60_exceptions.md R612). -/
theorem State.enter_spec {s : State} (target : Word) (h : Memory.wf s.mem = true) :
    StoresWord s (s.enter target) (s.sp - 2#16) s.pc ∧
      s.enter target = { s with pc := target, sp := s.sp - 2#16, mem := (s.enter target).mem } :=
  ⟨(State.push16_stores s.pc h).congr rfl rfl rfl, rfl⟩

/-- The acceptance of a non-maskable interrupt (60_exceptions.md R610). -/
theorem State.acceptNmi_spec {s : State} (h : Memory.wf s.mem = true) :
    StoresWord s s.acceptNmi (s.sp - 2#16) s.pc ∧
      s.acceptNmi = { s with
        pc := 0x0066#16, sp := s.sp - 2#16, mem := s.acceptNmi.mem, nmiPending := false, halted := false,
        eiShadow := false, iff1 := false } := by
  constructor
  · exact (State.enter_spec (s := { s with nmiPending := false, halted := false, eiShadow := false, iff1 := false })
      0x0066#16 h).1.congr rfl rfl rfl
  · rfl

/-- The acceptance of a maskable interrupt in mode 1 (60_exceptions.md R606, R608). -/
theorem State.acceptMode1_spec {s : State} (h : Memory.wf s.mem = true) :
    StoresWord s s.acceptIntCommon.respondMode1 (s.sp - 2#16) s.pc ∧
      s.acceptIntCommon.respondMode1 = { s with
        pc := 0x0038#16, sp := s.sp - 2#16, mem := s.acceptIntCommon.respondMode1.mem, halted := false,
        iff1 := false, iff2 := false, eiShadow := false } := by
  constructor
  · exact (State.enter_spec (s := s.acceptIntCommon) 0x0038#16 h).1.congr rfl rfl rfl
  · rfl

/-- The mode 2 response: PC is pushed, then the table entry is read (60_exceptions.md R609). -/
theorem State.respondMode2_spec {s : State} (v : Byte) (h : Memory.wf s.mem = true) :
    StoresWord s (s.respondMode2 v) (s.sp - 2#16) s.pc ∧
      s.respondMode2 v = { s with
        pc := (s.push16 s.pc).read16 (mkWord s.i v), sp := s.sp - 2#16, mem := (s.push16 s.pc).mem } := by
  constructor
  · exact (State.push16_stores s.pc h).congr rfl rfl rfl
  · rfl

/-- A return pops PC (48 R484). -/
theorem State.returnPC_spec (s : State) :
    s.returnPC = { s with pc := mkWord (s.read8 (s.sp + 1#16)) (s.read8 s.sp), sp := s.sp + 2#16 } := rfl

/-- RETN and RETI pop PC and copy IFF2 to IFF1 (60_exceptions.md R613). -/
theorem State.returnFromInterrupt_spec (s : State) :
    s.returnFromInterrupt = { s with
      pc := mkWord (s.read8 (s.sp + 1#16)) (s.read8 s.sp), sp := s.sp + 2#16, iff1 := s.iff2 } := rfl

/-- A byte of RAM or ROM reads as it is held (20_memory.md R85). -/
theorem State.read8_held {s : State} {x : Word} (h : s.kindAt x ≠ .unmapped) : s.read8 x = s.held x := by
  unfold State.read8
  split
  · next hk => exact absurd hk h
  · rfl

/-! ## Registers -/

/-- Writing a register changes that register alone. -/
theorem State.writeReg_spec (s : State) (r : Reg) (v : Byte) :
    WritesReg s (s.writeReg r v) r v ∧ s.writeReg r v = s.withRegsOf (s.writeReg r v) := by
  refine ⟨⟨?_, fun q hq => ?_⟩, ?_⟩
  · cases r <;> rfl
  · cases r <;> cases q <;> first | rfl | exact absurd rfl hq
  · cases r <;> rfl

/-- `WritesReg` looks at the seven general registers alone. -/
theorem WritesReg.congr {s t t' : State} {r : Reg} {v : Byte} (ht : ∀ q, t'.readReg q = t.readReg q)
    (h : WritesReg s t r v) : WritesReg s t' r v :=
  ⟨(ht r).trans h.1, fun q hq => (ht q).trans (h.2 q hq)⟩

/-- Writing a pair changes that pair alone. -/
theorem State.writePair_spec (s : State) (p : Pair) (v : Word) :
    WritesPair s (s.writePair p v) p v ∧ s.writePair p v = s.withPairsOf (s.writePair p v) := by
  refine ⟨⟨?_, fun q hq => ?_⟩, ?_⟩
  · cases p <;> first | rfl | exact mkWord_hiByte_loByte v
  · cases p <;> cases q <;> first | rfl | exact absurd rfl hq
  · cases p <;> rfl

/-! ## R -/

/-- An advance changes nothing but R and the counter of free values (10_state.md R54). -/
theorem State.advanceR_frame (s : State) (cause : Option Instr) :
    s.advanceR cause = { s with r := (s.advanceR cause).r, free := s.free + 1 } := rfl

theorem keepBit7_bit7 (r low : Byte) : (keepBit7 r low).getLsbD 7 = r.getLsbD 7 :=
  (BitVec.getLsbD_append (x := r.extractLsb' 7 1) (y := low.extractLsb' 0 7) (i := 7)).trans (by simp)

theorem keepBit7_low (r low : Byte) : (keepBit7 r low).toNat % 128 = low.toNat % 128 := by
  have h : (keepBit7 r low).toNat = (r.extractLsb' 7 1).toNat <<< 7 ||| (low.extractLsb' 0 7).toNat :=
    BitVec.toNat_append _ _
  have hl : (low.extractLsb' 0 7).toNat < 2 ^ 7 := (low.extractLsb' 0 7).isLt
  rw [h, ← Nat.shiftLeft_add_eq_or_of_lt hl, Nat.shiftLeft_eq, BitVec.extractLsb'_toNat]
  simp

/-- The rows of a table of `R_STEP` are searched in order. -/
theorem rStepValue_eq_find? (rows : List RStepRow) (cause : Option Instr) (r : Byte) :
    rStepValue rows cause r =
      (rows.find? (fun x => decide (x.cause = cause ∧ x.old = r))).map RStepRow.new := by
  induction rows with
  | nil => rfl
  | cons x xs ih =>
    unfold rStepValue
    by_cases h : x.cause = cause ∧ x.old = r
    · simp [h]
    · simp only [if_neg h, ih, List.find?_cons, decide_eq_false h]

/-- R after an advance is what `R_STEP` says of it (10_state.md R54; log entry 8). -/
theorem State.advanceR_stepsR (s : State) (cause : Option Instr) : StepsR s (s.advanceR cause) cause := by
  unfold StepsR State.advanceR State.steppedR
  cases h : s.params.rStep with
  | any => simp only [keepBit7_bit7]
  | fetchCount => simp only [keepBit7_bit7, keepBit7_low, BitVec.toNat_add, BitVec.toNat_ofNat, true_and]; omega
  | table rows =>
    simp only [rStepValue_eq_find?]
    cases rows.find? _ with
    | none => exact keepBit7_bit7 _ _
    | some x => rfl

/-! ## Ports -/

/-- The entries of a port function are searched in order. -/
theorem portValue_eq_find? (p : PortFunction) (addr : Word) :
    portValue p addr = (p.find? (fun x => addr &&& x.mask == x.addr &&& x.mask)).map PortEntry.value := by
  induction p with
  | nil => rfl
  | cons x xs ih =>
    unfold portValue
    by_cases h : addr &&& x.mask = x.addr &&& x.mask
    · simp [h]
    · simp [h, ih]

/-- A port read gives the byte that `IOSPACE` presents (20_memory.md R86). -/
theorem State.portByte_of_presents {s : State} {addr : Word} {v : Byte} (h : s.presents addr v) :
    s.portByte addr = v := by
  obtain ⟨p, ps, e, h1, h2, rfl⟩ := h
  unfold State.portByte
  rw [h1]
  simp only [portValue_eq_find?, h2]
  rfl

/-- A port read uses up the front port function, unless it is the last. -/
theorem State.ioSpaceAfterRead_eq (s : State) : s.ioSpaceAfterRead = laterPorts s.ioSpace := by
  unfold State.ioSpaceAfterRead
  rcases s.ioSpace with _ | ⟨p, _ | ⟨q, ps⟩⟩ <;> simp [laterPorts]

/-! ## Bytes supplied in mode 0 -/

/-- The decoder is given four bytes, and they begin with those the device supplies (log entry 12). -/
theorem State.suppliedBytes_spec (s : State) (given : List Byte) :
    given.take 4 <+: s.suppliedBytes given ∧ (s.suppliedBytes given).length = 4 := by
  constructor
  · unfold State.suppliedBytes
    rw [List.take_append]
    exact List.prefix_append _ _
  · simp [State.suppliedBytes]

/-! ## Every meaning answers a next state -/

/-- No instruction faults or is refused (60_exceptions.md R600). -/
theorem exec_next (i : Instr) (s : State) : ∃ t, exec i s = .next t := by
  cases i with
  | daa =>
    show ∃ t, execDaa s = .next t
    unfold execDaa
    split <;> exact ⟨_, rfl⟩
  | _ => exact ⟨_, rfl⟩

end Sys2Proof.Machine
end

