-- ==== Sys2Proof/Laws/Boundary.lean ====
section
/-! SUPPORT. What one step is, case by case: reset, the two kinds of interrupt, the idle step, and one instruction. -/

namespace Sys2Proof.Machine

/-- The state in which an undisturbed step goes on: one boundary's input is used up, and no request is pending. -/
theorem State.afterSampling_quiet {s : State} (h1 : s.nmiPending = false) (h2 : s.boundaryInput.nmi = false) :
    s.afterSampling = { s with inputs := s.inputs.tail } := by
  unfold State.afterSampling
  rw [h1, h2, ← h1]
  cases s
  simp_all

/-- The five things a step can be: reset, acceptance of a non-maskable or of a maskable interrupt, the idle step of the
halt state, and one instruction (60_exceptions.md R603). -/
theorem step_cases (s : State) :
    (s.boundaryInput.reset = true ∧ step s = .next s.afterSampling.resetCpu) ∨
    (s.boundaryInput.reset = false ∧ s.afterSampling.nmiPending = true ∧
      step s = .next (s.afterSampling.acceptNmi.advanceR none)) ∨
    (s.boundaryInput.reset = false ∧ s.afterSampling.nmiPending = false ∧
      ∃ bytes, s.boundaryInput.int = some bytes ∧ s.iff1 = true ∧ s.eiShadow = false ∧
        step s = acceptInt s.afterSampling bytes) ∨
    (s.boundaryInput.reset = false ∧ s.afterSampling.nmiPending = false ∧ s.halted = true ∧
      step s = .next s.afterSampling.idle) ∨
    (s.boundaryInput.reset = false ∧ s.afterSampling.nmiPending = false ∧ s.halted = false ∧
      step s = runDecoded s.afterSampling s.afterSampling.afterFetch (decode s.fetchBytes)) := by
  have hp : (s.halted = true ∧ proceed s.afterSampling = .next s.afterSampling.idle) ∨
      (s.halted = false ∧
        proceed s.afterSampling =
          runDecoded s.afterSampling s.afterSampling.afterFetch (decode s.fetchBytes)) := by
    cases hh : s.halted
    · exact .inr ⟨rfl, if_neg (by simp [State.afterSampling, hh])⟩
    · exact .inl ⟨rfl, if_pos hh⟩
  unfold step oneStep boundary
  cases hr : s.boundaryInput.reset
  · cases hn : s.afterSampling.nmiPending
    · cases hi : s.boundaryInput.int with
      | none => rcases hp with ⟨h1, h2⟩ | ⟨h1, h2⟩ <;> simp [h1, h2]
      | some bytes =>
        cases he : s.iff1 && !s.eiShadow
        · have : s.afterSampling.intEnabled = false := he
          rcases hp with ⟨h1, h2⟩ | ⟨h1, h2⟩ <;> simp [h1, h2, this]
        · have hi : s.afterSampling.intEnabled = true := he
          simp only [Bool.and_eq_true, Bool.not_eq_true'] at he
          simp [hi, he.1, he.2]
    · simp
  · simp

/-- The step of a state at which nothing is requested or accepted. -/
theorem step_undisturbed {s : State} (h : s.undisturbed) : step s = proceed { s with inputs := s.inputs.tail } := by
  obtain ⟨h1, h2, h3, h4⟩ := h
  unfold step oneStep boundary
  rw [State.afterSampling_quiet h2 h3]
  simp only [h1, h2, Bool.false_eq_true, if_false]
  rcases h4 with h4 | h4 | h4
  · rw [h4]
  · cases s.boundaryInput.int <;> simp [State.intEnabled, h4]
  · cases s.boundaryInput.int <;> simp [State.intEnabled, h4]

/-- The step of a running CPU at which nothing is requested or accepted. -/
theorem step_fetch {s : State} (h : s.undisturbed) (hh : s.halted = false) :
    step s = runDecoded { s with inputs := s.inputs.tail }
      (State.afterFetch { s with inputs := s.inputs.tail }) (decode s.fetchBytes) := by
  rw [step_undisturbed h]
  exact if_neg (by simp [hh])

/-- The step of a halted CPU at which nothing is requested or accepted. -/
theorem step_halted {s : State} (h : s.undisturbed) (hh : s.halted = true) :
    step s = .next (State.idle { s with inputs := s.inputs.tail }) := by
  rw [step_undisturbed h]
  exact if_pos hh

/-- The step that accepts a maskable interrupt. -/
theorem step_acceptsInt {s : State} {bytes : List Byte} (h : s.acceptsInt bytes) :
    step s = acceptInt { s with inputs := s.inputs.tail } bytes := by
  obtain ⟨h1, h2, h3, h4, h5, h6⟩ := h
  unfold step oneStep boundary
  rw [State.afterSampling_quiet h2 h3]
  simp [h1, h2, h4, State.intEnabled, h5, h6]

/-- Running a decoded instruction answers a next state; running a decoding error stops and names its bytes. -/
theorem runDecoded_cases (s : State) (start : Instr → State) (d : DecodeResult) :
    (∃ i rest t, d = .ok (i, rest) ∧ exec i (start i) = .next t ∧
      runDecoded s start d = .next (t.advanceRFor i)) ∨
    (∃ e, d = .error e ∧ runDecoded s start d = stopUndefined s.params.undefOpcode (errorBytes e)) := by
  rcases d with e | ⟨i, rest⟩
  · exact .inr ⟨e, rfl, rfl⟩
  · obtain ⟨t, ht⟩ := exec_next i (start i)
    exact .inl ⟨i, rest, t, rfl, ht, by show finishInstr i (exec i (start i)) = _; rw [ht]; rfl⟩

end Sys2Proof.Machine
end

