-- ==== Sys2Proof/Laws/PerInstr.lean ====
section
/-! SUPPORT. The per-instruction family `EncodedLength`: an instruction's encoding has the number of bytes the fetch
moves PC by (30_encoding.md R110, R126). -/

namespace Sys2Proof.Laws.EncodedLength

/-- The encoding of an instruction is as long as `Instr.length` says. -/
def Statement (i : Instr) : Prop := (encode i).length = i.length

theorem adcHLSs (ss : Pair) : Statement (.adcHLSs ss) := rfl
theorem adcAR (r : Reg) : Statement (.adcAR r) := rfl
theorem adcAN (n : Byte) : Statement (.adcAN n) := rfl
theorem adcAAtHL : Statement .adcAAtHL := rfl
theorem adcAAtIX (d : Byte) : Statement (.adcAAtIX d) := rfl
theorem adcAAtIY (d : Byte) : Statement (.adcAAtIY d) := rfl
theorem addAN (n : Byte) : Statement (.addAN n) := rfl
theorem addAR (r : Reg) : Statement (.addAR r) := rfl
theorem addAAtHL : Statement .addAAtHL := rfl
theorem addAAtIX (d : Byte) : Statement (.addAAtIX d) := rfl
theorem addAAtIY (d : Byte) : Statement (.addAAtIY d) := rfl
theorem addHLSs (ss : Pair) : Statement (.addHLSs ss) := rfl
theorem addIXPp (pp : IXPair) : Statement (.addIXPp pp) := rfl
theorem addIYRr (rr : IYPair) : Statement (.addIYRr rr) := rfl
theorem andR (r : Reg) : Statement (.andR r) := rfl
theorem andN (n : Byte) : Statement (.andN n) := rfl
theorem andAtHL : Statement .andAtHL := rfl
theorem andAtIX (d : Byte) : Statement (.andAtIX d) := rfl
theorem andAtIY (d : Byte) : Statement (.andAtIY d) := rfl
theorem bitBAtHL (b : BitVec 3) : Statement (.bitBAtHL b) := rfl
theorem bitBAtIX (b : BitVec 3) (d : Byte) : Statement (.bitBAtIX b d) := rfl
theorem bitBAtIY (b : BitVec 3) (d : Byte) : Statement (.bitBAtIY b d) := rfl
theorem bitBR (b : BitVec 3) (r : Reg) : Statement (.bitBR b r) := rfl
theorem callCcNN (cc : Cond) (nn : Word) : Statement (.callCcNN cc nn) := rfl
theorem callNN (nn : Word) : Statement (.callNN nn) := rfl
theorem ccf : Statement .ccf := rfl
theorem cpR (r : Reg) : Statement (.cpR r) := rfl
theorem cpN (n : Byte) : Statement (.cpN n) := rfl
theorem cpAtHL : Statement .cpAtHL := rfl
theorem cpAtIX (d : Byte) : Statement (.cpAtIX d) := rfl
theorem cpAtIY (d : Byte) : Statement (.cpAtIY d) := rfl
theorem cpd : Statement .cpd := rfl
theorem cpdr : Statement .cpdr := rfl
theorem cpi : Statement .cpi := rfl
theorem cpir : Statement .cpir := rfl
theorem cpl : Statement .cpl := rfl
theorem daa : Statement .daa := rfl
theorem decR (r : Reg) : Statement (.decR r) := rfl
theorem decAtHL : Statement .decAtHL := rfl
theorem decAtIX (d : Byte) : Statement (.decAtIX d) := rfl
theorem decAtIY (d : Byte) : Statement (.decAtIY d) := rfl
theorem decIX : Statement .decIX := rfl
theorem decIY : Statement .decIY := rfl
theorem decSs (ss : Pair) : Statement (.decSs ss) := rfl
theorem di : Statement .di := rfl
theorem djnz (disp : Byte) : Statement (.djnz disp) := rfl
theorem ei : Statement .ei := rfl
theorem exAtSPHL : Statement .exAtSPHL := rfl
theorem exAtSPIX : Statement .exAtSPIX := rfl
theorem exAtSPIY : Statement .exAtSPIY := rfl
theorem exAFAF : Statement .exAFAF := rfl
theorem exDEHL : Statement .exDEHL := rfl
theorem exx : Statement .exx := rfl
theorem halt : Statement .halt := rfl
theorem im0 : Statement .im0 := rfl
theorem im1 : Statement .im1 := rfl
theorem im2 : Statement .im2 := rfl
theorem inAN (n : Byte) : Statement (.inAN n) := rfl
theorem inRC (r : Reg) : Statement (.inRC r) := rfl
theorem incAtHL : Statement .incAtHL := rfl
theorem incIX : Statement .incIX := rfl
theorem incAtIX (d : Byte) : Statement (.incAtIX d) := rfl
theorem incIY : Statement .incIY := rfl
theorem incAtIY (d : Byte) : Statement (.incAtIY d) := rfl
theorem incR (r : Reg) : Statement (.incR r) := rfl
theorem incSs (ss : Pair) : Statement (.incSs ss) := rfl
theorem ind : Statement .ind := rfl
theorem indr : Statement .indr := rfl
theorem ini : Statement .ini := rfl
theorem inir : Statement .inir := rfl
theorem jpHL : Statement .jpHL := rfl
theorem jpIX : Statement .jpIX := rfl
theorem jpIY : Statement .jpIY := rfl
theorem jpCcNN (cc : Cond) (nn : Word) : Statement (.jpCcNN cc nn) := rfl
theorem jpNN (nn : Word) : Statement (.jpNN nn) := rfl
theorem jr (disp : Byte) : Statement (.jr disp) := rfl
theorem jrC (disp : Byte) : Statement (.jrC disp) := rfl
theorem jrNC (disp : Byte) : Statement (.jrNC disp) := rfl
theorem jrNZ (disp : Byte) : Statement (.jrNZ disp) := rfl
theorem jrZ (disp : Byte) : Statement (.jrZ disp) := rfl
theorem ldAAtBC : Statement .ldAAtBC := rfl
theorem ldAAtDE : Statement .ldAAtDE := rfl
theorem ldAI : Statement .ldAI := rfl
theorem ldAAtNN (nn : Word) : Statement (.ldAAtNN nn) := rfl
theorem ldARefresh : Statement .ldARefresh := rfl
theorem ldAtBCA : Statement .ldAtBCA := rfl
theorem ldAtDEA : Statement .ldAtDEA := rfl
theorem ldAtHLN (n : Byte) : Statement (.ldAtHLN n) := rfl
theorem ldDdNN (dd : Pair) (nn : Word) : Statement (.ldDdNN dd nn) := rfl
theorem ldDdAtNN (dd : Pair) (nn : Word) : Statement (.ldDdAtNN dd nn) := rfl
theorem ldHLAtNN (nn : Word) : Statement (.ldHLAtNN nn) := rfl
theorem ldAtHLR (r : Reg) : Statement (.ldAtHLR r) := rfl
theorem ldIA : Statement .ldIA := rfl
theorem ldIXNN (nn : Word) : Statement (.ldIXNN nn) := rfl
theorem ldIXAtNN (nn : Word) : Statement (.ldIXAtNN nn) := rfl
theorem ldAtIXN (d : Byte) (n : Byte) : Statement (.ldAtIXN d n) := rfl
theorem ldAtIXR (d : Byte) (r : Reg) : Statement (.ldAtIXR d r) := rfl
theorem ldIYNN (nn : Word) : Statement (.ldIYNN nn) := rfl
theorem ldIYAtNN (nn : Word) : Statement (.ldIYAtNN nn) := rfl
theorem ldAtIYN (d : Byte) (n : Byte) : Statement (.ldAtIYN d n) := rfl
theorem ldAtIYR (d : Byte) (r : Reg) : Statement (.ldAtIYR d r) := rfl
theorem ldAtNNA (nn : Word) : Statement (.ldAtNNA nn) := rfl
theorem ldAtNNDd (nn : Word) (dd : Pair) : Statement (.ldAtNNDd nn dd) := rfl
theorem ldAtNNHL (nn : Word) : Statement (.ldAtNNHL nn) := rfl
theorem ldAtNNIX (nn : Word) : Statement (.ldAtNNIX nn) := rfl
theorem ldAtNNIY (nn : Word) : Statement (.ldAtNNIY nn) := rfl
theorem ldRefreshA : Statement .ldRefreshA := rfl
theorem ldRAtHL (r : Reg) : Statement (.ldRAtHL r) := rfl
theorem ldRAtIX (r : Reg) (d : Byte) : Statement (.ldRAtIX r d) := rfl
theorem ldRAtIY (r : Reg) (d : Byte) : Statement (.ldRAtIY r d) := rfl
theorem ldRN (r : Reg) (n : Byte) : Statement (.ldRN r n) := rfl
theorem ldRR (r : Reg) (r' : Reg) : Statement (.ldRR r r') := rfl
theorem ldSPHL : Statement .ldSPHL := rfl
theorem ldSPIX : Statement .ldSPIX := rfl
theorem ldSPIY : Statement .ldSPIY := rfl
theorem ldd : Statement .ldd := rfl
theorem lddr : Statement .lddr := rfl
theorem ldi : Statement .ldi := rfl
theorem ldir : Statement .ldir := rfl
theorem neg : Statement .neg := rfl
theorem nop : Statement .nop := rfl
theorem orR (r : Reg) : Statement (.orR r) := rfl
theorem orN (n : Byte) : Statement (.orN n) := rfl
theorem orAtHL : Statement .orAtHL := rfl
theorem orAtIX (d : Byte) : Statement (.orAtIX d) := rfl
theorem orAtIY (d : Byte) : Statement (.orAtIY d) := rfl
theorem otdr : Statement .otdr := rfl
theorem otir : Statement .otir := rfl
theorem outCR (r : Reg) : Statement (.outCR r) := rfl
theorem outNA (n : Byte) : Statement (.outNA n) := rfl
theorem outd : Statement .outd := rfl
theorem outi : Statement .outi := rfl
theorem popIX : Statement .popIX := rfl
theorem popIY : Statement .popIY := rfl
theorem popQq (qq : StackPair) : Statement (.popQq qq) := rfl
theorem pushIX : Statement .pushIX := rfl
theorem pushIY : Statement .pushIY := rfl
theorem pushQq (qq : StackPair) : Statement (.pushQq qq) := rfl
theorem resBR (b : BitVec 3) (r : Reg) : Statement (.resBR b r) := rfl
theorem resBAtHL (b : BitVec 3) : Statement (.resBAtHL b) := rfl
theorem resBAtIX (b : BitVec 3) (d : Byte) : Statement (.resBAtIX b d) := rfl
theorem resBAtIY (b : BitVec 3) (d : Byte) : Statement (.resBAtIY b d) := rfl
theorem ret : Statement .ret := rfl
theorem retCc (cc : Cond) : Statement (.retCc cc) := rfl
theorem reti : Statement .reti := rfl
theorem retn : Statement .retn := rfl
theorem rlR (r : Reg) : Statement (.rlR r) := rfl
theorem rlAtHL : Statement .rlAtHL := rfl
theorem rlAtIX (d : Byte) : Statement (.rlAtIX d) := rfl
theorem rlAtIY (d : Byte) : Statement (.rlAtIY d) := rfl
theorem rla : Statement .rla := rfl
theorem rlcAtHL : Statement .rlcAtHL := rfl
theorem rlcAtIX (d : Byte) : Statement (.rlcAtIX d) := rfl
theorem rlcAtIY (d : Byte) : Statement (.rlcAtIY d) := rfl
theorem rlcR (r : Reg) : Statement (.rlcR r) := rfl
theorem rlca : Statement .rlca := rfl
theorem rld : Statement .rld := rfl
theorem rrR (r : Reg) : Statement (.rrR r) := rfl
theorem rrAtHL : Statement .rrAtHL := rfl
theorem rrAtIX (d : Byte) : Statement (.rrAtIX d) := rfl
theorem rrAtIY (d : Byte) : Statement (.rrAtIY d) := rfl
theorem rra : Statement .rra := rfl
theorem rrcR (r : Reg) : Statement (.rrcR r) := rfl
theorem rrcAtHL : Statement .rrcAtHL := rfl
theorem rrcAtIX (d : Byte) : Statement (.rrcAtIX d) := rfl
theorem rrcAtIY (d : Byte) : Statement (.rrcAtIY d) := rfl
theorem rrca : Statement .rrca := rfl
theorem rrd : Statement .rrd := rfl
theorem rst (p : Byte) : Statement (.rst p) := rfl
theorem sbcAR (r : Reg) : Statement (.sbcAR r) := rfl
theorem sbcAN (n : Byte) : Statement (.sbcAN n) := rfl
theorem sbcAAtHL : Statement .sbcAAtHL := rfl
theorem sbcAAtIX (d : Byte) : Statement (.sbcAAtIX d) := rfl
theorem sbcAAtIY (d : Byte) : Statement (.sbcAAtIY d) := rfl
theorem sbcHLSs (ss : Pair) : Statement (.sbcHLSs ss) := rfl
theorem scf : Statement .scf := rfl
theorem setBAtHL (b : BitVec 3) : Statement (.setBAtHL b) := rfl
theorem setBAtIX (b : BitVec 3) (d : Byte) : Statement (.setBAtIX b d) := rfl
theorem setBAtIY (b : BitVec 3) (d : Byte) : Statement (.setBAtIY b d) := rfl
theorem setBR (b : BitVec 3) (r : Reg) : Statement (.setBR b r) := rfl
theorem slaR (r : Reg) : Statement (.slaR r) := rfl
theorem slaAtHL : Statement .slaAtHL := rfl
theorem slaAtIX (d : Byte) : Statement (.slaAtIX d) := rfl
theorem slaAtIY (d : Byte) : Statement (.slaAtIY d) := rfl
theorem sraR (r : Reg) : Statement (.sraR r) := rfl
theorem sraAtHL : Statement .sraAtHL := rfl
theorem sraAtIX (d : Byte) : Statement (.sraAtIX d) := rfl
theorem sraAtIY (d : Byte) : Statement (.sraAtIY d) := rfl
theorem srlR (r : Reg) : Statement (.srlR r) := rfl
theorem srlAtHL : Statement .srlAtHL := rfl
theorem srlAtIX (d : Byte) : Statement (.srlAtIX d) := rfl
theorem srlAtIY (d : Byte) : Statement (.srlAtIY d) := rfl
theorem subR (r : Reg) : Statement (.subR r) := rfl
theorem subN (n : Byte) : Statement (.subN n) := rfl
theorem subAtHL : Statement .subAtHL := rfl
theorem subAtIX (d : Byte) : Statement (.subAtIX d) := rfl
theorem subAtIY (d : Byte) : Statement (.subAtIY d) := rfl
theorem xorR (r : Reg) : Statement (.xorR r) := rfl
theorem xorN (n : Byte) : Statement (.xorN n) := rfl
theorem xorAtHL : Statement .xorAtHL := rfl
theorem xorAtIX (d : Byte) : Statement (.xorAtIX d) := rfl
theorem xorAtIY (d : Byte) : Statement (.xorAtIY d) := rfl

end Sys2Proof.Laws.EncodedLength
end

