-- ==== Sys2Proof/Tests/Slice0.lean ====
section
/-! SUPPORT. Tests: words written out from the encodings of opcode_table.json and the rules, ill-formed terms, worked
examples of the spec run for one step, and a witness for every statement that has hypotheses. -/

namespace Sys2Proof.Tests

open Sys2Proof.Machine

/-! ## Well-formedness -/

/-- A restart address that is no multiple of 8 is refused (30_encoding.md R120). -/
theorem test_rst_odd_address_refused : (Instr.rst 0x01#8).wellFormed = false := by decide

/-- A restart address above 38H is refused (30_encoding.md R120). -/
theorem test_rst_large_address_refused : (Instr.rst 0x40#8).wellFormed = false := by decide

/-- The eight restart addresses are accepted (30_encoding.md R120). -/
theorem test_rst_addresses :
    ∀ p ∈ [0x00#8, 0x08#8, 0x10#8, 0x18#8, 0x20#8, 0x28#8, 0x30#8, 0x38#8], (Instr.rst p).wellFormed = true := by
  decide

/-! ## Words, bit by bit from the rules' encodings -/

/-- The rows of add and adc (R200 to R213), each with operands of its own. -/
theorem test_words_add_and_adc :
    ∀ x ∈ ([([0b11101101#8, 0b01011010#8], .adcHLSs .de),
        ([0b10001111#8], .adcAR .a),
        ([0b11001110#8, 0b01101111#8], .adcAN 0x6F#8),
        ([0b10001110#8], .adcAAtHL),
        ([0b11011101#8, 0b10001110#8, 0b00101010#8], .adcAAtIX 0x2A#8),
        ([0b11111101#8, 0b10001110#8, 0b00110101#8], .adcAAtIY 0x35#8),
        ([0b11000110#8, 0b10001011#8], .addAN 0x8B#8),
        ([0b10000011#8], .addAR .e),
        ([0b10000110#8], .addAAtHL),
        ([0b11011101#8, 0b10000110#8, 0b01100001#8], .addAAtIX 0x61#8),
        ([0b11111101#8, 0b10000110#8, 0b01101100#8], .addAAtIY 0x6C#8),
        ([0b00001001#8], .addHLSs .bc),
        ([0b11011101#8, 0b00011001#8], .addIXPp .de),
        ([0b11111101#8, 0b00101001#8], .addIYRr .iy)] :
        List (List Byte × Instr)),
      decode x.1 = .ok (x.2, []) ∧ encode x.2 = x.1 := by
  decide

/-- The rows of and (R214 to R218), each with operands of its own. -/
theorem test_words_and :
    ∀ x ∈ ([([0b10100011#8], .andR .e),
        ([0b11100110#8, 0b11001010#8], .andN 0xCA#8),
        ([0b10100110#8], .andAtHL),
        ([0b11011101#8, 0b10100110#8, 0b10111001#8], .andAtIX 0xB9#8),
        ([0b11111101#8, 0b10100110#8, 0b11000100#8], .andAtIY 0xC4#8)] :
        List (List Byte × Instr)),
      decode x.1 = .ok (x.2, []) ∧ encode x.2 = x.1 := by
  decide

/-- The rows of bit (R230 to R233), each with operands of its own. -/
theorem test_words_bit :
    ∀ x ∈ ([([0b11001011#8, 0b01101110#8], .bitBAtHL 5#3),
        ([0b11011101#8, 0b11001011#8, 0b11011010#8, 0b01010110#8], .bitBAtIX 2#3 0xDA#8),
        ([0b11111101#8, 0b11001011#8, 0b11100101#8, 0b01111110#8], .bitBAtIY 7#3 0xE5#8),
        ([0b11001011#8, 0b01100001#8], .bitBR 4#3 .c)] :
        List (List Byte × Instr)),
      decode x.1 = .ok (x.2, []) ∧ encode x.2 = x.1 := by
  decide

/-- The rows of call, ccf, cp, cpl (R234 to R246), each with operands of its own. -/
theorem test_words_call_ccf_cp_cpl :
    ∀ x ∈ ([([0b11000100#8, 0b01111101#8, 0b10011001#8], .callCcNN .nz 0x997D#16),
        ([0b11001101#8, 0b10000000#8, 0b10011110#8], .callNN 0x9E80#16),
        ([0b00111111#8], .ccf),
        ([0b10111100#8], .cpR .h),
        ([0b11111110#8, 0b00011110#8], .cpN 0x1E#8),
        ([0b10111110#8], .cpAtHL),
        ([0b11011101#8, 0b10111110#8, 0b00111101#8], .cpAtIX 0x3D#8),
        ([0b11111101#8, 0b10111110#8, 0b01001000#8], .cpAtIY 0x48#8),
        ([0b11101101#8, 0b10101001#8], .cpd),
        ([0b11101101#8, 0b10111001#8], .cpdr),
        ([0b11101101#8, 0b10100001#8], .cpi),
        ([0b11101101#8, 0b10110001#8], .cpir),
        ([0b00101111#8], .cpl)] :
        List (List Byte × Instr)),
      decode x.1 = .ok (x.2, []) ∧ encode x.2 = x.1 := by
  decide

/-- The rows of daa to exx (R270 to R289), each with operands of its own. -/
theorem test_words_daa_to_exx :
    ∀ x ∈ ([([0b00100111#8], .daa),
        ([0b00010101#8], .decR .d),
        ([0b00110101#8], .decAtHL),
        ([0b11011101#8, 0b00110101#8, 0b10101011#8], .decAtIX 0xAB#8),
        ([0b11111101#8, 0b00110101#8, 0b10110110#8], .decAtIY 0xB6#8),
        ([0b11011101#8, 0b00101011#8], .decIX),
        ([0b11111101#8, 0b00101011#8], .decIY),
        ([0b00001011#8], .decSs .bc),
        ([0b11110011#8], .di),
        ([0b00010000#8, 0b00110111#8], .djnz 0x37#8),
        ([0b11111011#8], .ei),
        ([0b11100011#8], .exAtSPHL),
        ([0b11011101#8, 0b11100011#8], .exAtSPIX),
        ([0b11111101#8, 0b11100011#8], .exAtSPIY),
        ([0b00001000#8], .exAFAF),
        ([0b11101011#8], .exDEHL),
        ([0b11011001#8], .exx)] :
        List (List Byte × Instr)),
      decode x.1 = .ok (x.2, []) ∧ encode x.2 = x.1 := by
  decide

/-- The rows of halt to ini (R300 to R316), each with operands of its own. -/
theorem test_words_halt_to_ini :
    ∀ x ∈ ([([0b01110110#8], .halt),
        ([0b11101101#8, 0b01000110#8], .im0),
        ([0b11101101#8, 0b01010110#8], .im1),
        ([0b11101101#8, 0b01011110#8], .im2),
        ([0b11011011#8, 0b11110000#8], .inAN 0xF0#8),
        ([0b11101101#8, 0b01010000#8], .inRC .d),
        ([0b00110100#8], .incAtHL),
        ([0b11011101#8, 0b00100011#8], .incIX),
        ([0b11011101#8, 0b00110100#8, 0b10011101#8], .incAtIX 0x9D#8),
        ([0b11111101#8, 0b00100011#8], .incIY),
        ([0b11111101#8, 0b00110100#8, 0b10110011#8], .incAtIY 0xB3#8),
        ([0b00111100#8], .incR .a),
        ([0b00100011#8], .incSs .hl),
        ([0b11101101#8, 0b10101010#8], .ind),
        ([0b11101101#8, 0b10111010#8], .indr),
        ([0b11101101#8, 0b10100010#8], .ini),
        ([0b11101101#8, 0b10110010#8], .inir)] :
        List (List Byte × Instr)),
      decode x.1 = .ok (x.2, []) ∧ encode x.2 = x.1 := by
  decide

/-- The rows of jumps (R340 to R350), each with operands of its own. -/
theorem test_words_jumps :
    ∀ x ∈ ([([0b11101001#8], .jpHL),
        ([0b11011101#8, 0b11101001#8], .jpIX),
        ([0b11111101#8, 0b11101001#8], .jpIY),
        ([0b11010010#8, 0b00010011#8, 0b10010011#8], .jpCcNN .nc 0x9313#16),
        ([0b11000011#8, 0b00010110#8, 0b10011000#8], .jpNN 0x9816#16),
        ([0b00011000#8, 0b10111101#8], .jr 0xBD#8),
        ([0b00111000#8, 0b11001010#8], .jrC 0xCA#8),
        ([0b00110000#8, 0b11010111#8], .jrNC 0xD7#8),
        ([0b00100000#8, 0b11100100#8], .jrNZ 0xE4#8),
        ([0b00101000#8, 0b11110001#8], .jrZ 0xF1#8)] :
        List (List Byte × Instr)),
      decode x.1 = .ok (x.2, []) ∧ encode x.2 = x.1 := by
  decide

/-- The rows of loads, first part (R361 to R381), each with operands of its own. -/
theorem test_words_loads_first_part :
    ∀ x ∈ ([([0b00001010#8], .ldAAtBC),
        ([0b00011010#8], .ldAAtDE),
        ([0b11101101#8, 0b01010111#8], .ldAI),
        ([0b00111010#8, 0b00110001#8, 0b11000101#8], .ldAAtNN 0xC531#16),
        ([0b11101101#8, 0b01011111#8], .ldARefresh),
        ([0b00000010#8], .ldAtBCA),
        ([0b00010010#8], .ldAtDEA),
        ([0b00110110#8, 0b11000010#8], .ldAtHLN 0xC2#8),
        ([0b00010001#8, 0b01000000#8, 0b11011110#8], .ldDdNN .de 0xDE40#16),
        ([0b11101101#8, 0b01101011#8, 0b01000011#8, 0b11100011#8], .ldDdAtNN .hl 0xE343#16),
        ([0b00101010#8, 0b01000110#8, 0b11101000#8], .ldHLAtNN 0xE846#16),
        ([0b01110011#8], .ldAtHLR .e),
        ([0b11101101#8, 0b01000111#8], .ldIA),
        ([0b11011101#8, 0b00100001#8, 0b01001111#8, 0b11110111#8], .ldIXNN 0xF74F#16),
        ([0b11011101#8, 0b00101010#8, 0b01010010#8, 0b11111100#8], .ldIXAtNN 0xFC52#16),
        ([0b11011101#8, 0b00110110#8, 0b00010011#8, 0b11111010#8], .ldAtIXN 0x13#8 0xFA#8),
        ([0b11011101#8, 0b01110100#8, 0b00011110#8], .ldAtIXR 0x1E#8 .h),
        ([0b11111101#8, 0b00100001#8, 0b01011011#8, 0b00001011#8], .ldIYNN 0x0B5B#16),
        ([0b11111101#8, 0b00101010#8, 0b01011110#8, 0b00010000#8], .ldIYAtNN 0x105E#16),
        ([0b11111101#8, 0b00110110#8, 0b00111111#8, 0b00010110#8], .ldAtIYN 0x3F#8 0x16#8),
        ([0b11111101#8, 0b01110010#8, 0b01001010#8], .ldAtIYR 0x4A#8 .d)] :
        List (List Byte × Instr)),
      decode x.1 = .ok (x.2, []) ∧ encode x.2 = x.1 := by
  decide

/-- The rows of loads, second part (R400 to R417), each with operands of its own. -/
theorem test_words_loads_second_part :
    ∀ x ∈ ([([0b00110010#8, 0b01100111#8, 0b00011111#8], .ldAtNNA 0x1F67#16),
        ([0b11101101#8, 0b01110011#8, 0b01101010#8, 0b00100100#8], .ldAtNNDd 0x246A#16 .sp),
        ([0b00100010#8, 0b01101101#8, 0b00101001#8], .ldAtNNHL 0x296D#16),
        ([0b11011101#8, 0b00100010#8, 0b01110000#8, 0b00101110#8], .ldAtNNIX 0x2E70#16),
        ([0b11111101#8, 0b00100010#8, 0b01110011#8, 0b00110011#8], .ldAtNNIY 0x3373#16),
        ([0b11101101#8, 0b01001111#8], .ldRefreshA),
        ([0b01010110#8], .ldRAtHL .d),
        ([0b11011101#8, 0b01101110#8, 0b10100010#8], .ldRAtIX .l 0xA2#8),
        ([0b11111101#8, 0b01001110#8, 0b10101101#8], .ldRAtIY .c 0xAD#8),
        ([0b00100110#8, 0b01100011#8], .ldRN .h 0x63#8),
        ([0b01000010#8], .ldRR .b .d),
        ([0b11111001#8], .ldSPHL),
        ([0b11011101#8, 0b11111001#8], .ldSPIX),
        ([0b11111101#8, 0b11111001#8], .ldSPIY),
        ([0b11101101#8, 0b10101000#8], .ldd),
        ([0b11101101#8, 0b10111000#8], .lddr),
        ([0b11101101#8, 0b10100000#8], .ldi),
        ([0b11101101#8, 0b10110000#8], .ldir)] :
        List (List Byte × Instr)),
      decode x.1 = .ok (x.2, []) ∧ encode x.2 = x.1 := by
  decide

/-- The rows of neg to push (R440 to R459), each with operands of its own. -/
theorem test_words_neg_to_push :
    ∀ x ∈ ([([0b11101101#8, 0b01000100#8], .neg),
        ([0b00000000#8], .nop),
        ([0b10110010#8], .orR .d),
        ([0b11110110#8, 0b10110111#8], .orN 0xB7#8),
        ([0b10110110#8], .orAtHL),
        ([0b11011101#8, 0b10110110#8, 0b01010010#8], .orAtIX 0x52#8),
        ([0b11111101#8, 0b10110110#8, 0b01011101#8], .orAtIY 0x5D#8),
        ([0b11101101#8, 0b10111011#8], .otdr),
        ([0b11101101#8, 0b10110011#8], .otir),
        ([0b11101101#8, 0b01010001#8], .outCR .d),
        ([0b11010011#8, 0b11101000#8], .outNA 0xE8#8),
        ([0b11101101#8, 0b10101011#8], .outd),
        ([0b11101101#8, 0b10100011#8], .outi),
        ([0b11011101#8, 0b11100001#8], .popIX),
        ([0b11111101#8, 0b11100001#8], .popIY),
        ([0b11110001#8], .popQq .af),
        ([0b11011101#8, 0b11100101#8], .pushIX),
        ([0b11111101#8, 0b11100101#8], .pushIY),
        ([0b11100101#8], .pushQq .hl)] :
        List (List Byte × Instr)),
      decode x.1 = .ok (x.2, []) ∧ encode x.2 = x.1 := by
  decide

/-- The rows of res, returns, rotates, rst (R480 to R510), each with operands of its own. -/
theorem test_words_res_returns_rotates_rst :
    ∀ x ∈ ([([0b11001011#8, 0b10000111#8], .resBR 0#3 .a),
        ([0b11001011#8, 0b10101110#8], .resBAtHL 5#3),
        ([0b11011101#8, 0b11001011#8, 0b00000010#8, 0b10010110#8], .resBAtIX 2#3 0x02#8),
        ([0b11111101#8, 0b11001011#8, 0b00001101#8, 0b10111110#8], .resBAtIY 7#3 0x0D#8),
        ([0b11001001#8], .ret),
        ([0b11000000#8], .retCc .nz),
        ([0b11101101#8, 0b01001101#8], .reti),
        ([0b11101101#8, 0b01000101#8], .retn),
        ([0b11001011#8, 0b00010000#8], .rlR .b),
        ([0b11001011#8, 0b00010110#8], .rlAtHL),
        ([0b11011101#8, 0b11001011#8, 0b01011010#8, 0b00010110#8], .rlAtIX 0x5A#8),
        ([0b11111101#8, 0b11001011#8, 0b01100101#8, 0b00010110#8], .rlAtIY 0x65#8),
        ([0b00010111#8], .rla),
        ([0b11001011#8, 0b00000110#8], .rlcAtHL),
        ([0b11011101#8, 0b11001011#8, 0b10000110#8, 0b00000110#8], .rlcAtIX 0x86#8),
        ([0b11111101#8, 0b11001011#8, 0b10010001#8, 0b00000110#8], .rlcAtIY 0x91#8),
        ([0b11001011#8, 0b00000011#8], .rlcR .e),
        ([0b00000111#8], .rlca),
        ([0b11101101#8, 0b01101111#8], .rld),
        ([0b11001011#8, 0b00011101#8], .rrR .l),
        ([0b11001011#8, 0b00011110#8], .rrAtHL),
        ([0b11011101#8, 0b11001011#8, 0b11010011#8, 0b00011110#8], .rrAtIX 0xD3#8),
        ([0b11111101#8, 0b11001011#8, 0b11011110#8, 0b00011110#8], .rrAtIY 0xDE#8),
        ([0b00011111#8], .rra),
        ([0b11001011#8, 0b00001111#8], .rrcR .a),
        ([0b11001011#8, 0b00001110#8], .rrcAtHL),
        ([0b11011101#8, 0b11001011#8, 0b00001010#8, 0b00001110#8], .rrcAtIX 0x0A#8),
        ([0b11111101#8, 0b11001011#8, 0b00010101#8, 0b00001110#8], .rrcAtIY 0x15#8),
        ([0b00001111#8], .rrca),
        ([0b11101101#8, 0b01100111#8], .rrd),
        ([0b11011111#8], .rst 0x18#8)] :
        List (List Byte × Instr)),
      decode x.1 = .ok (x.2, []) ∧ encode x.2 = x.1 := by
  decide

/-- The rows of sbc to xor (R540 to R572), each with operands of its own. -/
theorem test_words_sbc_to_xor :
    ∀ x ∈ ([([0b10011111#8], .sbcAR .a),
        ([0b11011110#8, 0b00000111#8], .sbcAN 0x07#8),
        ([0b10011110#8], .sbcAAtHL),
        ([0b11011101#8, 0b10011110#8, 0b01100010#8], .sbcAAtIX 0x62#8),
        ([0b11111101#8, 0b10011110#8, 0b01101101#8], .sbcAAtIY 0x6D#8),
        ([0b11101101#8, 0b01110010#8], .sbcHLSs .sp),
        ([0b00110111#8], .scf),
        ([0b11001011#8, 0b11110110#8], .setBAtHL 6#3),
        ([0b11011101#8, 0b11001011#8, 0b10011001#8, 0b11011110#8], .setBAtIX 3#3 0x99#8),
        ([0b11111101#8, 0b11001011#8, 0b10100100#8, 0b11000110#8], .setBAtIY 0#3 0xA4#8),
        ([0b11001011#8, 0b11101011#8], .setBR 5#3 .e),
        ([0b11001011#8, 0b00100100#8], .slaR .h),
        ([0b11001011#8, 0b00100110#8], .slaAtHL),
        ([0b11011101#8, 0b11001011#8, 0b11010000#8, 0b00100110#8], .slaAtIX 0xD0#8),
        ([0b11111101#8, 0b11001011#8, 0b11011011#8, 0b00100110#8], .slaAtIY 0xDB#8),
        ([0b11001011#8, 0b00101010#8], .sraR .d),
        ([0b11001011#8, 0b00101110#8], .sraAtHL),
        ([0b11011101#8, 0b11001011#8, 0b11111100#8, 0b00101110#8], .sraAtIX 0xFC#8),
        ([0b11111101#8, 0b11001011#8, 0b00000111#8, 0b00101110#8], .sraAtIY 0x07#8),
        ([0b11001011#8, 0b00111000#8], .srlR .b),
        ([0b11001011#8, 0b00111110#8], .srlAtHL),
        ([0b11011101#8, 0b11001011#8, 0b00101000#8, 0b00111110#8], .srlAtIX 0x28#8),
        ([0b11111101#8, 0b11001011#8, 0b00110011#8, 0b00111110#8], .srlAtIY 0x33#8),
        ([0b10010101#8], .subR .l),
        ([0b11010110#8, 0b10101000#8], .subN 0xA8#8),
        ([0b10010110#8], .subAtHL),
        ([0b11011101#8, 0b10010110#8, 0b01011111#8], .subAtIX 0x5F#8),
        ([0b11111101#8, 0b10010110#8, 0b01101010#8], .subAtIY 0x6A#8),
        ([0b10101111#8], .xorR .a),
        ([0b11101110#8, 0b11001011#8], .xorN 0xCB#8),
        ([0b10101110#8], .xorAtHL),
        ([0b11011101#8, 0b10101110#8, 0b10010110#8], .xorAtIX 0x96#8),
        ([0b11111101#8, 0b10101110#8, 0b10100001#8], .xorAtIY 0xA1#8)] :
        List (List Byte × Instr)),
      decode x.1 = .ok (x.2, []) ∧ encode x.2 = x.1 := by
  decide

/-- Undefined encodings are refused by name (30_encoding.md R135). -/
theorem test_undefined_words :
    ∀ x ∈ [[0xCB#8, 0x30#8], [0xED#8, 0x70#8], [0xED#8, 0x4C#8], [0xDD#8, 0x76#8], [0xDD#8, 0xFD#8],
        [0xFD#8, 0xEB#8], [0xDD#8, 0xCB#8, 0x05#8, 0x36#8], [0xFD#8, 0xCB#8, 0x05#8, 0x47#8]],
      decode x = .error (.undefinedEncoding x) := by
  decide

/-- A list of bytes that ends inside an instruction is refused. -/
theorem test_truncated : decode [0x21#8, 0x34#8] = .error .truncated := by decide

/-- A table word is one number, its first byte the most significant: ED 4A (R200; log entry 14). -/
theorem test_table_word : decodeTableWord 16 0xED4A = some (.adcHLSs .bc) := by decide

/-- Operand bytes above the table's bits are 0: CD and two zero bytes (R235; log entry 14). -/
theorem test_table_word_operands : decodeTableWord 24 0xCD0000 = some (.callNN 0x0000#16) := by decide

/-! ## States to start from -/

/-- A state with a stack and the given bytes at 0100H, where PC stands. -/
def at0100 (bytes : List Byte) : State :=
  { State.reset with pc := 0x0100#16, sp := 0x3000#16, mem := Memory.load [] 0x0100#16 bytes }

/-- The next state of one step, as far as `check` looks. -/
def stepGives (s : State) (check : State → Bool) : Bool :=
  match step s with
  | .next t => check t
  | _ => false

/-- The flags S, Z, H, P/V, N, C. -/
def flagsAre (t : State) (s z h pv n c : Bool) : Bool := t.f.named == ⟨s, z, h, pv, n, c⟩

/-- One boundary at which a maskable interrupt is requested with the given bytes. -/
def intRequest (bytes : List Byte) : BoundaryInput := { reset := false, nmi := false, int := some bytes }

/-- One boundary at which a non-maskable interrupt is requested. -/
def nmiRequest : BoundaryInput := { reset := false, nmi := true, int := none }

/-! ## Worked examples of the spec, one step each -/

/-- R203: A = 16H, C = 1, (6666H) = 10H; ADC A,(HL) gives 27H. -/
theorem test_adc_hl :
    stepGives { at0100 [0x8E#8] with
      a := 0x16#8, h := 0x66#8, l := 0x66#8, f := Flags.ofByte 0x01#8,
      mem := Memory.write (at0100 [0x8E#8]).mem 0x6666 0x10#8 }
      (fun t => t.a == 0x27#8 && t.pc == 0x0101#16 && flagsAre t false false false false false false) = true := by
  decide

/-- R440: A = 98H; NEG gives 68H with carry and half carry. -/
theorem test_neg :
    stepGives { at0100 [0xED#8, 0x44#8] with a := 0x98#8 }
      (fun t => t.a == 0x68#8 && flagsAre t false false true false true true) = true := by
  decide

/-- R234: CALL NC,2135H at 1A47H with SP = 3002H pushes 1A4AH. -/
theorem test_call_nc :
    stepGives { State.reset with
      pc := 0x1A47#16, sp := 0x3002#16, mem := [(0x1A47, 0xD4#8), (0x1A48, 0x35#8), (0x1A49, 0x21#8)] }
      (fun t => t.pc == 0x2135#16 && t.sp == 0x3000#16 && t.held 0x3001#16 == 0x1A#8 && t.held 0x3000#16 == 0x4A#8) =
      true := by
  decide

/-- R498: A = 7AH, (5000H) = 31H; RLD gives A = 73H, (5000H) = 1AH. -/
theorem test_rld :
    stepGives { at0100 [0xED#8, 0x6F#8] with
      a := 0x7A#8, h := 0x50#8, mem := Memory.write (at0100 [0xED#8, 0x6F#8]).mem 0x5000 0x31#8 }
      (fun t => t.a == 0x73#8 && t.held 0x5000#16 == 0x1A#8) = true := by
  decide

/-- R284: HL = 7012H, SP = 8856H, (8856H) = 11H, (8857H) = 22H; EX (SP),HL. -/
theorem test_ex_sp_hl :
    stepGives { State.reset with
      pc := 0x0100#16, sp := 0x8856#16, h := 0x70#8, l := 0x12#8,
      mem := [(0x0100, 0xE3#8), (0x8856, 0x11#8), (0x8857, 0x22#8)] }
      (fun t => t.hl == 0x2211#16 && t.held 0x8856#16 == 0x12#8 && t.held 0x8857#16 == 0x70#8 &&
        t.sp == 0x8856#16) = true := by
  decide

/-- R417: LDIR with BC = 0003H moves one byte and goes back to its own first byte. -/
theorem test_ldir_repeats :
    stepGives { State.reset with
      pc := 0x0100#16, c := 3#8, d := 0x22#8, e := 0x22#8, h := 0x11#8, l := 0x11#8,
      mem := [(0x0100, 0xED#8), (0x0101, 0xB0#8), (0x1111, 0x88#8)] }
      (fun t => t.pc == 0x0100#16 && t.bc == 2#16 && t.de == 0x2223#16 && t.hl == 0x1112#16 &&
        t.held 0x2222#16 == 0x88#8 && t.f.pv) = true := by
  decide

/-- R417: with BC = 0001H the last byte moves and the instruction ends. -/
theorem test_ldir_ends :
    stepGives { State.reset with
      pc := 0x0100#16, c := 1#8, d := 0x22#8, h := 0x11#8,
      mem := [(0x0100, 0xED#8), (0x0101, 0xB0#8)] }
      (fun t => t.pc == 0x0102#16 && t.bc == 0#16 && !t.f.pv) = true := by
  decide

/-- R304: A = 23H and port 01H presents 7BH, port 02H something else; IN A,(01H) reads I/O address 2301H. -/
theorem test_in_a :
    stepGives { at0100 [0xDB#8, 0x01#8] with
      a := 0x23#8, ioSpace := [[⟨0x00FF#16, 0x0002#16, 0x99#8⟩, ⟨0x00FF#16, 0x0001#16, 0x7B#8⟩], []] }
      (fun t => t.a == 0x7B#8 && t.bus == [.ioRead 0x2301#16 0x7B#8] && t.ioSpace == [[]]) = true := by
  decide

/-- R54, D15: an R_STEP of the host's own, here one that adds 3 to R = FEH in a NOP and changes bit 7. -/
theorem test_r_step_table :
    stepGives { at0100 [0x00#8] with
      r := 0xFE#8
      params := { Params.default with rStep := .table [⟨some .halt, 0xFE#8, 0x00#8⟩, ⟨some .nop, 0xFE#8, 0x01#8⟩] } }
      (fun t => t.r == 0x01#8) = true := by
  decide

/-- R661: ADD A,n takes 4 and 3 T states. -/
theorem test_t_states : tStates (.addAN 0x33#8) State.reset = 7 := by decide

/-- R452: B = 10H, C = 07H, (1000H) = 59H; OUTD writes 59H to I/O address 0F07H. -/
theorem test_outd :
    stepGives { at0100 [0xED#8, 0xAB#8] with
      b := 0x10#8, c := 0x07#8, h := 0x10#8, mem := Memory.write (at0100 [0xED#8, 0xAB#8]).mem 0x1000 0x59#8 }
      (fun t => t.b == 0x0F#8 && t.hl == 0x0FFF#16 && t.bus == [.ioWrite 0x0F07#16 0x59#8] && !t.f.z && t.f.n) =
      true := by
  decide

/-- R270: 15 + 27 in BCD: 3CH becomes 42H. -/
theorem test_daa :
    stepGives { at0100 [0x27#8] with a := 0x3C#8 } (fun t => t.a == 0x42#8 && !t.f.c && t.f.pv) = true := by
  decide

/-- R363: I = 4AH; LD A,I gives A = 4AH and P/V = IFF2. -/
theorem test_ld_a_i :
    stepGives { at0100 [0xED#8, 0x57#8] with i := 0x4A#8, iff2 := true }
      (fun t => t.a == 0x4A#8 && t.f.pv && !t.f.z) = true := by
  decide

/-- R405: A = B4H; after the step of LD R,A, R = B4H. -/
theorem test_ld_r_a :
    stepGives { at0100 [0xED#8, 0x4F#8] with a := 0xB4#8 } (fun t => t.r == 0xB4#8) = true := by decide

/-- 00_scope.md R22: (IX-1) with IX = 0000H is FFFFH. -/
theorem test_displacement_wraps :
    stepGives { at0100 [0xDD#8, 0x77#8, 0xFF#8] with a := 0x55#8 }
      (fun t => t.held 0xFFFF#16 == 0x55#8 && t.pc == 0x0103#16) = true := by
  decide

/-- R610: the example of RETN: NMI with SP = 1000H and PC = 1A45H. -/
theorem test_nmi :
    stepGives { State.reset with pc := 0x1A45#16, sp := 0x1000#16, iff1 := true, iff2 := true, inputs := [nmiRequest] }
      (fun t => t.pc == 0x0066#16 && t.sp == 0x0FFE#16 && t.held 0x0FFF#16 == 0x1A#8 && t.held 0x0FFE#16 == 0x45#8 &&
        !t.iff1 && t.iff2) = true := by
  decide

/-- R609: mode 2 with I = 20H and the byte 40H goes to the word at 2040H. -/
theorem test_mode2 :
    stepGives { State.reset with
      pc := 0x0200#16, sp := 0x3000#16, im := .im2, i := 0x20#8, iff1 := true, iff2 := true,
      mem := [(0x2040, 0x34#8), (0x2041, 0x12#8)], inputs := [intRequest [0x40#8]] }
      (fun t => t.pc == 0x1234#16 && t.held 0x2FFF#16 == 0x02#8 && !t.iff1 && !t.iff2) = true := by
  decide

/-- R607: RST 38H supplied in mode 0 pushes the interrupted PC. -/
theorem test_mode0_rst :
    stepGives { State.reset with
      pc := 0x0200#16, sp := 0x3000#16, iff1 := true, iff2 := true, halted := true, inputs := [intRequest [0xFF#8]] }
      (fun t => t.pc == 0x0038#16 && t.held 0x2FFF#16 == 0x02#8 && !t.halted) = true := by
  decide

/-- 20_memory.md R85: a store to ROM is ignored. -/
theorem test_rom :
    stepGives { at0100 [0x77#8] with
      a := 0x55#8, h := 0x20#8,
      params := { Params.default with memMap := [⟨0x2000, 0x20FF, .rom⟩] } }
      (fun t => t.held 0x2000#16 == 0x00#8 && t.pc == 0x0101#16) = true := by
  decide

/-- 30_encoding.md R135: ED 00 is refused and named. -/
theorem test_undefined_stops : step (at0100 [0xED#8, 0x00#8]) = .refused (.undefinedEncoding [0xED#8, 0x00#8]) :=
  rfl

/-- A placed word is fetched and run by the very next step, even from a halted state (log entry 15). -/
theorem test_with_fetch_word :
    stepGives ({ State.reset with halted := true }.withFetchWord 16 0x3E5A)
      (fun t => t.a == 0x5A#8 && t.pc == 0x0002#16) = true := by
  decide

/-! ## Witnesses: states and operands that meet the hypotheses of a statement -/

/-- A state that accepts a maskable interrupt in a mode. -/
def accepting (mode : IntMode) (bytes : List Byte) : State :=
  { at0100 [0x3C#8] with im := mode, i := 0xFF#8, iff1 := true, iff2 := true, inputs := [intRequest bytes] }

theorem test_witness_DecodeEncode : (Instr.rst 0x38#8).wellFormed = true := by decide

theorem test_witness_DecodeSound : decode [0x3E#8, 0x5A#8, 0x76#8] = .ok (.ldRN .a 0x5A#8, [0x76#8]) := by decide

theorem test_witness_StepRunsDecoded :
    (at0100 [0x3C#8]).undisturbed ∧ (at0100 [0x3C#8]).halted = false ∧
      decode (at0100 [0x3C#8]).fetchBytes = .ok (.incR .a, [0x00#8, 0x00#8, 0x00#8]) :=
  ⟨⟨rfl, rfl, rfl, .inl rfl⟩, rfl, by decide⟩

/-- A request that is not accepted leaves the boundary undisturbed: interrupts disabled. -/
theorem test_witness_undisturbed_masked :
    State.undisturbed { at0100 [0x3C#8] with inputs := [intRequest [0xFF#8]] } := ⟨rfl, rfl, rfl, .inr (.inl rfl)⟩

/-- A request that is not accepted leaves the boundary undisturbed: the hold-off of EI. -/
theorem test_witness_undisturbed_held :
    State.undisturbed
      { at0100 [0x3C#8] with iff1 := true, iff2 := true, eiShadow := true, inputs := [intRequest [0xFF#8]] } :=
  ⟨rfl, rfl, rfl, .inr (.inr rfl)⟩

theorem test_witness_StopsExactlyAtUndefinedEncodings :
    (at0100 [0xED#8]).undisturbed ∧ (at0100 [0xED#8]).halted = false ∧
      decode (at0100 [0xED#8]).fetchBytes = .error (.undefinedEncoding [0xED#8, 0x00#8]) ∧
      (at0100 [0xED#8]).params.undefOpcode = .refuse :=
  ⟨⟨rfl, rfl, rfl, .inl rfl⟩, rfl, by decide, rfl⟩

theorem test_witness_StopsExactlyAtUndefinedEncodings_fault :
    step { at0100 [0xED#8] with params := { Params.default with undefOpcode := .fault } } =
      .fault (.undefinedEncoding [0xED#8, 0x00#8]) :=
  rfl

/-- An undefined encoding supplied in mode 0. -/
theorem test_witness_StopsExactlyAtUndefinedEncodings_supplied :
    (accepting .im0 [0xED#8, 0x00#8]).acceptsInt [0xED#8, 0x00#8] ∧ (accepting .im0 [0xED#8, 0x00#8]).im = .im0 ∧
      decode ((accepting .im0 [0xED#8, 0x00#8]).suppliedBytes [0xED#8, 0x00#8]) =
        .error (.undefinedEncoding [0xED#8, 0x00#8]) :=
  ⟨⟨rfl, rfl, rfl, rfl, rfl, rfl⟩, rfl, rfl⟩

theorem test_witness_ResetEvent :
    State.boundaryInput { at0100 [] with
      halted := true, inputs := [{ reset := true, nmi := true, int := some [] }] } =
      { reset := true, nmi := true, int := some [] } := by
  decide

theorem test_witness_StepKeepsInvariant :
    (at0100 [0xFB#8]).Inv ∧ ∃ t, step (at0100 [0xFB#8]) = .next t ∧ t.eiShadow = true ∧ t.iff1 = true :=
  ⟨⟨by decide, fun h => h, fun h => absurd h (by decide)⟩, _, rfl, rfl, rfl⟩

/-- The invariant with the hold-off standing. -/
theorem test_witness_invariant_held :
    State.Inv { at0100 [0x3C#8] with iff1 := true, iff2 := true, eiShadow := true } :=
  ⟨by decide, fun _ => rfl, fun _ => ⟨rfl, rfl⟩⟩

/-- ROM from 2000H and an unpopulated page above it, and a store that aims at the ROM. -/
def withRom : State :=
  { at0100 [0x36#8, 0x55#8] with
    h := 0x20#8
    params := { Params.default with memMap := [⟨0x2000, 0x20FF, .rom⟩, ⟨0x2100, 0x21FF, .unmapped⟩] } }

theorem test_witness_StepKeepsRom :
    (∃ t, step withRom = .next t) ∧ withRom.kindAt 0x2000#16 = .rom ∧ withRom.kindAt 0x20FF#16 = .rom ∧
      withRom.kindAt 0x2100#16 = .unmapped ∧ withRom.kindAt 0x2200#16 = .ram :=
  ⟨⟨_, rfl⟩, by decide, by decide, by decide, by decide⟩

/-- A non-maskable interrupt latched before, while the CPU is halted and interrupts are held off. -/
def nmiLatched : State := { at0100 [0x3C#8] with nmiPending := true, halted := true, eiShadow := true }

theorem test_witness_NmiEntry_latched :
    Memory.wf nmiLatched.mem = true ∧ nmiLatched.boundaryInput.reset = false ∧ nmiLatched.nmiPending = true := by
  decide

/-- A non-maskable interrupt requested at this boundary, beside a maskable one. -/
def nmiRequested : State :=
  { at0100 [0x3C#8] with iff1 := true, inputs := [{ reset := false, nmi := true, int := some [] }] }

theorem test_witness_NmiEntry_requested :
    Memory.wf nmiRequested.mem = true ∧ nmiRequested.boundaryInput.reset = false ∧
      nmiRequested.boundaryInput.nmi = true := by
  decide

theorem test_witness_IntMode1Entry :
    Memory.wf (accepting .im1 []).mem = true ∧ (accepting .im1 []).acceptsInt [] ∧ (accepting .im1 []).im = .im1 :=
  ⟨by decide, ⟨rfl, rfl, rfl, rfl, rfl, rfl⟩, rfl⟩

/-- The table entry lies across the end of the address space. -/
theorem test_witness_IntMode2Entry :
    Memory.wf (accepting .im2 [0xFF#8]).mem = true ∧ (accepting .im2 [0xFF#8]).acceptsInt [0xFF#8] ∧
      (accepting .im2 [0xFF#8]).im = .im2 ∧ (accepting .im2 [0xFF#8]).kindAt (mkWord 0xFF#8 0xFF#8) ≠ .unmapped ∧
      (accepting .im2 [0xFF#8]).kindAt (mkWord 0xFF#8 0xFF#8 + 1#16) ≠ .unmapped :=
  ⟨by decide, ⟨rfl, rfl, rfl, rfl, rfl, rfl⟩, rfl, by decide, by decide⟩

/-- No byte supplied in mode 2. -/
theorem test_witness_IntMode2Entry_no_byte :
    Memory.wf (accepting .im2 []).mem = true ∧ (accepting .im2 []).acceptsInt [] ∧ (accepting .im2 []).im = .im2 :=
  ⟨by decide, ⟨rfl, rfl, rfl, rfl, rfl, rfl⟩, rfl⟩

theorem test_witness_IntMode0RunsSupplied :
    (Instr.callNN 0x1234#16).wellFormed = true ∧
      (accepting .im0 [0xCD#8, 0x34#8, 0x12#8]).acceptsInt (encode (.callNN 0x1234#16) ++ []) ∧
      (accepting .im0 [0xCD#8, 0x34#8, 0x12#8]).im = .im0 :=
  ⟨rfl, ⟨rfl, rfl, rfl, rfl, rfl, rfl⟩, rfl⟩

/-- One byte of the three of a JP nn supplied in mode 0: free values stand behind it. -/
theorem test_witness_IntMode0RunsSupplied_short :
    (accepting .im0 [0xC3#8]).acceptsInt [0xC3#8] ∧
      ∃ nn rest, decode ((accepting .im0 [0xC3#8]).suppliedBytes [0xC3#8]) = .ok (.jpNN nn, rest) :=
  ⟨⟨rfl, rfl, rfl, rfl, rfl, rfl⟩, _, _, rfl⟩

/-- Both ways a maskable request is ignored: interrupts disabled, and the hold-off of EI. -/
theorem test_witness_MaskedRequestIsIgnored :
    (State.inputs { at0100 [0x3C#8] with inputs := [intRequest [0xFF#8]] } = [intRequest [0xFF#8]] ∧
      State.iff1 { at0100 [0x3C#8] with inputs := [intRequest [0xFF#8]] } = false) ∧
    State.eiShadow { at0100 [0x3C#8] with iff1 := true, eiShadow := true, inputs := [intRequest []] } = true := by
  decide

theorem test_witness_EiHoldsOffOneInstruction :
    (at0100 [0xFB#8]).undisturbed ∧ (at0100 [0xFB#8]).halted = false ∧
      decode (at0100 [0xFB#8]).fetchBytes = .ok (.ei, [0x00#8, 0x00#8, 0x00#8]) :=
  ⟨⟨rfl, rfl, rfl, .inl rfl⟩, rfl, by decide⟩

theorem test_witness_HaltedStepIsIdle :
    State.undisturbed { at0100 [] with halted := true } ∧ State.halted { at0100 [] with halted := true } = true :=
  ⟨⟨rfl, rfl, rfl, .inl rfl⟩, rfl⟩

/-- A step of LD R,A and a step of another instruction. -/
theorem test_witness_RefreshAdvance :
    decode (at0100 [0xED#8, 0x4F#8]).fetchBytes = .ok (.ldRefreshA, [0x00#8, 0x00#8]) ∧
      (∃ t, step (at0100 [0xED#8, 0x4F#8]) = .next t) ∧
      decode (at0100 [0xCB#8, 0x07#8]).fetchBytes = .ok (.rlcR .a, [0x00#8, 0x00#8]) ∧
      (∃ t, step (at0100 [0xCB#8, 0x07#8]) = .next t) :=
  ⟨by decide, ⟨_, rfl⟩, by decide, ⟨_, rfl⟩⟩

/-- Steps that enter an interrupt by NMI, in modes 1 and 2, run an instruction supplied in mode 0, and idle. -/
theorem test_witness_RefreshAdvance_entries :
    (∃ t, step nmiLatched = .next t) ∧
      ((accepting .im1 []).acceptsInt [] ∧ ∃ t, step (accepting .im1 []) = .next t) ∧
      ((accepting .im2 []).acceptsInt [] ∧ ∃ t, step (accepting .im2 []) = .next t) ∧
      ((accepting .im0 [0xFF#8]).acceptsInt [0xFF#8] ∧
        ∃ t rest, decode ((accepting .im0 [0xFF#8]).suppliedBytes [0xFF#8]) = .ok (.rst 0x38#8, rest) ∧
          step (accepting .im0 [0xFF#8]) = .next t) ∧
      ∃ t, step { at0100 [] with halted := true } = .next t :=
  ⟨⟨_, rfl⟩, ⟨⟨rfl, rfl, rfl, rfl, rfl, rfl⟩, _, rfl⟩, ⟨⟨rfl, rfl, rfl, rfl, rfl, rfl⟩, _, rfl⟩,
    ⟨⟨rfl, rfl, rfl, rfl, rfl, rfl⟩, _, _, rfl, rfl⟩, _, rfl⟩

theorem test_witness_RefreshAdvance_counts :
    stepGives { at0100 [0xCB#8, 0x07#8] with r := 0xFF#8, params := { Params.default with rStep := .fetchCount } }
      (fun t => t.r == 0x81#8) = true := by
  decide

/-- Instructions on both sides of every clause of `ControlStateFrame` and `AlternateSetAndPortsFrame` answer a next
state. -/
theorem test_witness_ControlStateFrame_AlternateSetAndPortsFrame :
    ∀ i ∈ [Instr.ldIA, .ldRefreshA, .im0, .im1, .im2, .di, .ei, .reti, .retn, .halt, .exAFAF, .exx, .nop],
      ∃ t, exec i (at0100 []) = .next t := by
  intro i hi
  simp only [List.mem_cons, List.not_mem_nil, or_false] at hi
  rcases hi with rfl | rfl | rfl | rfl | rfl | rfl | rfl | rfl | rfl | rfl | rfl | rfl | rfl <;> exact ⟨_, rfl⟩

/-- Memory in canonical form, the premise of every statement about a store: MemoryAccess, IncDecBytes,
RotatesAndShifts, RotateDigits, SetResetBit, StoreByteForms, StoreWordForms, PushAndPop, StackExchanges, BlockTransfer,
BlockInput, Calls, and of the interrupt entries. -/
theorem test_witness_canonical_memory :
    Memory.wf (at0100 [0x3C#8, 0x00#8, 0xFF#8]).mem = true ∧ (at0100 [0x3C#8]).params = Params.default := by
  decide

/-- Addresses of all three kinds, for MemoryAccess and every store. -/
theorem test_witness_MemoryAccess :
    Memory.wf withRom.mem = true ∧ withRom.kindAt 0x1FFF#16 = .ram ∧ withRom.kindAt 0x2000#16 ≠ .unmapped ∧
      withRom.kindAt 0x21FF#16 = .unmapped := by
  decide

/-- Both corners of every row of the table of `DecimalAdjust` are states that match the row, and no other row before
it. -/
theorem test_witness_DecimalAdjust :
    ∀ row ∈ daaTable,
      daaRow row.n row.c row.h (BitVec.ofNat 8 (row.hiFrom * 16 + row.loFrom)) = some row ∧
      daaRow row.n row.c row.h (BitVec.ofNat 8 (row.hiTo * 16 + row.loTo)) = some row := by
  decide

theorem test_witness_DecimalArithmetic :
    IsBcd 99 0x99#8 ∧ IsBcd 0 0x00#8 ∧ IsBcd 27 0x27#8 :=
  ⟨⟨by decide, by decide⟩, ⟨by decide, by decide⟩, ⟨by decide, by decide⟩⟩

/-- The bytes on the top of the stack exist, across the end of the address space too: PushAndPop, Returns. -/
theorem test_witness_PushAndPop_Returns :
    State.read8 { at0100 [] with sp := 0xFFFF#16, mem := [(0x0000, 0x12#8), (0xFFFF, 0x34#8)] } 0xFFFF#16 = 0x34#8 ∧
      State.read8 { at0100 [] with sp := 0xFFFF#16, mem := [(0x0000, 0x12#8), (0xFFFF, 0x34#8)] }
        (0xFFFF#16 + 1#16) = 0x12#8 := by
  decide

/-- Port 07H presents a byte, whatever the high half of the address: PortAccess, BlockInput. -/
theorem test_witness_PortAccess_BlockInput :
    State.presents { at0100 [] with ioSpace := [[⟨0x00FF#16, 0x0007#16, 0x7B#8⟩]] } 0x1007#16 0x7B#8 ∧
      Memory.wf (at0100 []).mem = true :=
  ⟨⟨_, _, _, rfl, rfl, rfl⟩, by decide⟩

/-- A call that is taken and one that is not. -/
theorem test_witness_Calls :
    (Cond.nz, true) ∈ conditionTable (at0100 []).f ∧ (Cond.z, false) ∈ conditionTable (at0100 []).f ∧
      Memory.wf (at0100 []).mem = true := by
  decide

end Sys2Proof.Tests
end

section
/-! SUPPORT AND PROOFS. The primitives of 00_scope.md: sums and differences with their flags, the indexed address,
rotates and shifts, conditions. -/

namespace Sys2Proof.Machine

/-! ## Sign, zero and signed overflow at every width

`m` is the weight of the sign bit, half the modulus. -/

theorem isZero_iff {w : Nat} (v : BitVec w) : isZero v = true ↔ v.toNat = 0 := beq_iff_eq

/-- The sign bit of a word is set exactly from half the modulus on. -/
theorem msb_eq_decide_half_le {w m : Nat} (hm : 2 ^ w = 2 * m) (v : BitVec w) : v.msb = decide (m ≤ v.toNat) := by
  rw [Bool.eq_iff_iff, BitVec.msb_eq_true_iff_two_mul_ge, decide_eq_true_iff, hm]
  omega

theorem msb_iff_half_le {w m : Nat} (hm : 2 ^ w = 2 * m) (v : BitVec w) : v.msb = true ↔ m ≤ v.toNat := by
  rw [msb_eq_decide_half_le hm, decide_eq_true_iff]

theorem toNat_lt_two_mul {w m : Nat} (hm : 2 ^ w = 2 * m) (v : BitVec w) : v.toNat < 2 * m := hm ▸ v.isLt

theorem natCast_toNat_ofInt (w : Nat) (x : Int) : ((BitVec.ofInt w x).toNat : Int) = x % (2 ^ w : Nat) := by
  rw [BitVec.toNat_ofInt]
  exact Int.toNat_of_nonneg (Int.emod_nonneg x (Int.natCast_ne_zero.mpr (NeZero.ne _)))

/-- A sum `r` leaves the signed range exactly when its operands have one sign and `r` has the other (00_scope.md R14,
R16). `hr` says that `r` is the sum, without or with a carry out. Signs and signed values are both read off the
comparison with `m`; what is left is linear arithmetic. -/
theorem sum_overflow_iff {w m : Nat} (hm : 2 ^ w = 2 * m) {a b r : BitVec w} {cin : Bool}
    (hr : r.toNat = a.toNat + b.toNat + cin.toNat ∨ r.toNat + 2 * m = a.toNat + b.toNat + cin.toNat) :
    (a.msb = b.msb ∧ r.msb ≠ a.msb) ↔
      a.toInt + b.toInt + cin.toNat < -(m : Int) ∨ (m : Int) ≤ a.toInt + b.toInt + cin.toNat := by
  have hcin := cin.toNat_le
  have ha := toNat_lt_two_mul hm a
  have hb := toNat_lt_two_mul hm b
  have hlt := toNat_lt_two_mul hm r
  simp only [msb_eq_decide_half_le hm, BitVec.toInt_eq_toNat_cond, hm, ne_eq, decide_eq_decide]
  omega

/-- A difference `r` leaves the signed range exactly when `a` and `b` have different signs and `r` has not that of `a`
(00_scope.md R15, R16). `hr` says that `r` is the difference, without or with a borrow. -/
theorem difference_overflow_iff {w m : Nat} (hm : 2 ^ w = 2 * m) {a b r : BitVec w} {cin : Bool}
    (hr : a.toNat = r.toNat + b.toNat + cin.toNat ∨ a.toNat + 2 * m = r.toNat + b.toNat + cin.toNat) :
    (a.msb ≠ b.msb ∧ r.msb ≠ a.msb) ↔
      a.toInt - b.toInt - cin.toNat < -(m : Int) ∨ (m : Int) ≤ a.toInt - b.toInt - cin.toNat := by
  have hcin := cin.toNat_le
  have ha := toNat_lt_two_mul hm a
  have hb := toNat_lt_two_mul hm b
  have hlt := toNat_lt_two_mul hm r
  simp only [msb_eq_decide_half_le hm, BitVec.toInt_eq_toNat_cond, hm, ne_eq, decide_eq_decide]
  omega

/-! ## `add8` and `sub8` -/

theorem add8_res_toNat (a b : Byte) (cin : Bool) :
    (add8 a b cin).res.toNat = (a.toNat + b.toNat + cin.toNat) % 256 := rfl

theorem add8_pv_iff (a b : Byte) (cin : Bool) :
    (add8 a b cin).flags.pv = true ↔ a.msb = b.msb ∧ (add8 a b cin).res.msb ≠ a.msb := by
  simp [add8]

theorem sub8_res_toNat (a b : Byte) (cin : Bool) :
    ((sub8 a b cin).res.toNat : Int) = ((a.toNat : Int) - b.toNat - cin.toNat) % 256 :=
  natCast_toNat_ofInt 8 _

theorem sub8_pv_iff (a b : Byte) (cin : Bool) :
    (sub8 a b cin).flags.pv = true ↔ a.msb ≠ b.msb ∧ (sub8 a b cin).res.msb ≠ a.msb := by
  simp [sub8]

theorem add8_flags (f : Flags) (a b : Byte) (cin : Bool) :
    SumFlags8 (f.withNamed (add8 a b cin).flags) a b cin := by
  have hres := add8_res_toNat a b cin
  have hcin := cin.toNat_le
  have sign := msb_iff_half_le (m := 128) rfl (add8 a b cin).res
  have zero := isZero_iff (add8 a b cin).res
  rw [hres] at sign zero
  have overflow := (add8_pv_iff a b cin).trans (sum_overflow_iff (m := 128) (cin := cin) rfl (by omega))
  exact ⟨sign, zero, decide_eq_true_iff, overflow, rfl, decide_eq_true_iff⟩

theorem sub8_flags (f : Flags) (a b : Byte) (cin : Bool) :
    DifferenceFlags8 (f.withNamed (sub8 a b cin).flags) a b cin := by
  have hres := sub8_res_toNat a b cin
  have hcin := cin.toNat_le
  have overflow := (sub8_pv_iff a b cin).trans (difference_overflow_iff (m := 128) (cin := cin) rfl (by omega))
  have sign := msb_iff_half_le (m := 128) rfl (sub8 a b cin).res
  have zero := isZero_iff (sub8 a b cin).res
  exact ⟨sign.trans (by omega), zero.trans (by omega), decide_eq_true_iff.trans (by omega), overflow, rfl,
    decide_eq_true_iff.trans (by omega)⟩

/-- Settles O22: the overflow flag is read off the signs by `add8_pv_iff` and `sub8_pv_iff`, and off the signed values
by `add8_flags` and `sub8_flags`. -/
theorem byteSumAndDifference : Obligations.ByteSumAndDifference := fun a b cin f =>
  ⟨add8_res_toNat a b cin, add8_flags f a b cin, add8_pv_iff a b cin,
    sub8_res_toNat a b cin, sub8_flags f a b cin, sub8_pv_iff a b cin⟩

/-! ## `add16` and `sub16` -/

theorem add16_res_toNat (a b : Word) (cin : Bool) :
    (add16 a b cin).res.toNat = (a.toNat + b.toNat + cin.toNat) % 65536 := rfl

theorem add16_pv_iff (a b : Word) (cin : Bool) :
    (add16 a b cin).flags.pv = true ↔ a.msb = b.msb ∧ (add16 a b cin).res.msb ≠ a.msb := by
  simp [add16]

theorem sub16_res_toNat (a b : Word) (cin : Bool) :
    ((sub16 a b cin).res.toNat : Int) = ((a.toNat : Int) - b.toNat - cin.toNat) % 65536 :=
  natCast_toNat_ofInt 16 _

theorem sub16_pv_iff (a b : Word) (cin : Bool) :
    (sub16 a b cin).flags.pv = true ↔ a.msb ≠ b.msb ∧ (sub16 a b cin).res.msb ≠ a.msb := by
  simp [sub16]

theorem add16_flags (f : Flags) (a b : Word) (cin : Bool) :
    SumFlags16 (f.withNamed (add16 a b cin).flags) a b cin := by
  have hres := add16_res_toNat a b cin
  have hcin := cin.toNat_le
  have sign := msb_iff_half_le (m := 32768) rfl (add16 a b cin).res
  have zero := isZero_iff (add16 a b cin).res
  rw [hres] at sign zero
  have overflow := (add16_pv_iff a b cin).trans (sum_overflow_iff (m := 32768) (cin := cin) rfl (by omega))
  exact ⟨sign, zero, decide_eq_true_iff, overflow, rfl, decide_eq_true_iff⟩

theorem sub16_flags (f : Flags) (a b : Word) (cin : Bool) :
    DifferenceFlags16 (f.withNamed (sub16 a b cin).flags) a b cin := by
  have hres := sub16_res_toNat a b cin
  have hcin := cin.toNat_le
  have overflow := (sub16_pv_iff a b cin).trans (difference_overflow_iff (m := 32768) (cin := cin) rfl (by omega))
  have sign := msb_iff_half_le (m := 32768) rfl (sub16 a b cin).res
  have zero := isZero_iff (sub16 a b cin).res
  exact ⟨sign.trans (by omega), zero.trans (by omega), decide_eq_true_iff.trans (by omega), overflow, rfl,
    decide_eq_true_iff.trans (by omega)⟩

/-- Settles O23: the overflow flag is read off the signs by `add16_pv_iff` and `sub16_pv_iff`, and off the signed values
by `add16_flags` and `sub16_flags`. -/
theorem wordSumAndDifference : Obligations.WordSumAndDifference := fun a b cin f =>
  ⟨add16_res_toNat a b cin, add16_flags f a b cin, add16_pv_iff a b cin,
    sub16_res_toNat a b cin, sub16_flags f a b cin, sub16_pv_iff a b cin⟩

/-! ## The indexed address -/

/-- A sign-extended byte added to a word adds its value from -128 to 127, modulo 65536. -/
theorem natCast_toNat_add_signExtend (x : Word) (d : Byte) :
    ((x + d.signExtend 16).toNat : Int) = ((x.toNat : Int) + d.toInt) % 65536 := by
  have hd : ((d.signExtend 16).toNat : Int) = d.toInt % 65536 := natCast_toNat_ofInt 16 d.toInt
  rw [BitVec.toNat_add]
  omega

/-- Settles O24: `ea` adds the sign-extended displacement, and both operands are `ea` of their index register. -/
theorem indexedAddress : Obligations.IndexedAddress :=
  ⟨natCast_toNat_add_signExtend, fun _ _ => ⟨rfl, rfl⟩⟩

/-! ## Rotates and shifts (00_scope.md R19) -/

theorem shiftInLow_getLsbD_zero (v : Byte) (b : Bool) : (shiftInLow v b).getLsbD 0 = b :=
  (BitVec.getLsbD_append (x := v.extractLsb' 0 7) (y := BitVec.ofBool b)).trans (by simp)

theorem shiftInLow_getLsbD_succ (v : Byte) (b : Bool) {k : Nat} (hk : k < 7) :
    (shiftInLow v b).getLsbD (k + 1) = v.getLsbD k :=
  (BitVec.getLsbD_append (x := v.extractLsb' 0 7) (y := BitVec.ofBool b)).trans (by simp [hk])

theorem shiftInHigh_getLsbD_seven (b : Bool) (v : Byte) : (shiftInHigh b v).getLsbD 7 = b :=
  (BitVec.getLsbD_append (x := BitVec.ofBool b) (y := v.extractLsb' 1 7)).trans (by simp)

theorem shiftInHigh_getLsbD_of_lt (b : Bool) (v : Byte) {k : Nat} (hk : k < 7) :
    (shiftInHigh b v).getLsbD k = v.getLsbD (k + 1) :=
  (BitVec.getLsbD_append (x := BitVec.ofBool b) (y := v.extractLsb' 1 7)).trans (by simp [hk, Nat.add_comm])

/-- Settles O25: each result is the byte with one bit shifted in, low or high. -/
theorem rotateAndShiftBits : Obligations.RotateAndShiftBits := by
  intro v c
  have low := shiftInLow_getLsbD_zero v
  have high := (shiftInHigh_getLsbD_seven · v)
  refine ⟨fun k hk => ?_, low _, low _, low _, high _, high _, high _, high _, rfl, rfl, rfl, rfl, rfl, rfl, rfl⟩
  have left b := shiftInLow_getLsbD_succ v b hk
  have right b := shiftInHigh_getLsbD_of_lt b v hk
  exact ⟨left _, left _, left _, right _, right _, right _, right _⟩

/-! ## Conditions (00_scope.md R20) -/

/-- Settles O26: the eight rows, one by one. -/
theorem conditionField : Obligations.ConditionField := by
  intro f
  simp only [List.forall_mem_cons]
  exact ⟨⟨rfl, rfl⟩, ⟨rfl, rfl⟩, ⟨rfl, rfl⟩, ⟨rfl, rfl⟩, ⟨rfl, rfl⟩, ⟨rfl, rfl⟩, ⟨rfl, rfl⟩, ⟨rfl, rfl⟩, List.forall_mem_nil _⟩

end Sys2Proof.Machine
end

section
/-! SUPPORT AND PROOFS. What an instruction and a step do outside the general registers (10_state.md R43, R53 to R60):
the one case split over the instructions, `exec_effect`, and the rules over all instructions and all steps. -/

namespace Sys2Proof.Machine

/-! ## The background of an instruction -/

/-- The registers and the part of the environment that most instructions leave alone. -/
structure Background where
  altA : Byte
  altF : Flags
  altB : Byte
  altC : Byte
  altD : Byte
  altE : Byte
  altH : Byte
  altL : Byte
  i : Byte
  r : Byte
  iff1 : Bool
  iff2 : Bool
  im : IntMode
  halted : Bool
  eiShadow : Bool
  nmiPending : Bool
  inputs : List BoundaryInput
  ioSpace : List PortFunction
  bus : List BusEvent

/-- The background of a state. -/
def State.background (s : State) : Background :=
  { altA := s.altA, altF := s.altF, altB := s.altB, altC := s.altC, altD := s.altD, altE := s.altE, altH := s.altH,
    altL := s.altL, i := s.i, r := s.r, iff1 := s.iff1, iff2 := s.iff2, im := s.im, halted := s.halted,
    eiShadow := s.eiShadow, nmiPending := s.nmiPending, inputs := s.inputs, ioSpace := s.ioSpace, bus := s.bus }

/-- The background after an instruction: the instructions that change it, and how. -/
def State.backgroundAfter (s : State) : Instr → Background
  | .ldIA => { s.background with i := s.a }
  | .ldRefreshA => { s.background with r := s.a }
  | .im0 => { s.background with im := .im0 }
  | .im1 => { s.background with im := .im1 }
  | .im2 => { s.background with im := .im2 }
  | .di => { s.background with iff1 := false, iff2 := false, eiShadow := false }
  | .ei => { s.background with iff1 := true, iff2 := true, eiShadow := true }
  | .reti => { s.background with iff1 := s.iff2, bus := .reti :: s.bus }
  | .retn => { s.background with iff1 := s.iff2 }
  | .halt => { s.background with halted := true }
  | .exAFAF => { s.background with altA := s.a, altF := s.f }
  | .exx => { s.background with altB := s.b, altC := s.c, altD := s.d, altE := s.e, altH := s.h, altL := s.l }
  | .inAN n => (s.afterIoRead (s.portA n)).background
  | .inRC _ | .ini | .inir | .ind | .indr => (s.afterIoRead s.portBC).background
  | .outNA n => (s.ioWrite (s.portA n) s.a).background
  | .outCR r => (s.ioWrite s.portBC (s.readReg r)).background
  | .outi | .otir | .outd | .otdr => (s.ioWrite (mkWord (s.b - 1#8) s.c) s.atHL).background
  | _ => s.background

/-! ## What a sequence of operations does -/

/-- Memory that stores through the memory map of `s` can leave behind. -/
inductive StoredFrom (s : State) : Memory → Prop where
  | refl : StoredFrom s s.mem
  | store {m : Memory} (x : Word) (v : Byte) (h : StoredFrom s m) : StoredFrom s ({ s with mem := m }.memAfter x v)

/-- From `s` to `t` the parameters stay, memory changes by stores alone, and the background becomes `b`. -/
structure Effect (s t : State) (b : Background) : Prop where
  background : t.background = b
  params : t.params = s.params
  memory : StoredFrom s t.mem

theorem Effect.refl (s : State) : Effect s s s.background := ⟨rfl, rfl, .refl⟩

theorem Effect.afterIoRead (s : State) (x : Word) : Effect s (s.afterIoRead x) (s.afterIoRead x).background :=
  ⟨rfl, rfl, .refl⟩

section
variable {s t : State} {b : Background} (h : Effect s t b)
include h

theorem Effect.storeFlags (g : NamedFlags) : Effect s (t.storeFlags g) b := ⟨h.background, h.params, h.memory⟩

theorem Effect.writeReg (r : Reg) (v : Byte) : Effect s (t.writeReg r v) b := by
  cases r <;> exact ⟨h.background, h.params, h.memory⟩

theorem Effect.writePair (p : Pair) (v : Word) : Effect s (t.writePair p v) b := by
  cases p <;> exact ⟨h.background, h.params, h.memory⟩

theorem Effect.setHL (v : Word) : Effect s (t.setHL v) b := h.writePair .hl v

theorem Effect.writeStackPair (q : StackPair) (v : Word) : Effect s (t.writeStackPair q v) b := by
  cases q <;> exact ⟨h.background, h.params, h.memory⟩

theorem Effect.setIX (v : Word) : Effect s { t with ix := v } b := ⟨h.background, h.params, h.memory⟩

theorem Effect.setIY (v : Word) : Effect s { t with iy := v } b := ⟨h.background, h.params, h.memory⟩

theorem Effect.setBus (events : List BusEvent) : Effect s { t with bus := events } { b with bus := events } :=
  ⟨congrArg (fun b' => { b' with bus := events }) h.background, h.params, h.memory⟩

theorem Effect.popped : Effect s t.popped b := ⟨h.background, h.params, h.memory⟩

theorem Effect.repeatIf (again : Bool) : Effect s (t.repeatIf again) b := ⟨h.background, h.params, h.memory⟩

theorem Effect.blockIoEnd (delta : Word) : Effect s (t.blockIoEnd delta) b := ⟨h.background, h.params, h.memory⟩

theorem Effect.write8 (x : Word) (v : Byte) : Effect s (t.write8 x v) b where
  background := h.background
  params := h.params
  memory := by
    have hmem : t.memAfter x v = State.memAfter { s with mem := t.mem } x v := State.memAfter_congr x v rfl h.params
    rw [State.write8_mem, hmem]
    exact .store x v h.memory

theorem Effect.push16 (v : Word) : Effect s (t.push16 v) b :=
  let stored := (h.write8 (t.sp - 1#16) (hiByte v)).write8 (t.sp - 2#16) (loByte v)
  ⟨h.background, h.params, stored.memory⟩

theorem Effect.enter (target : Word) : Effect s (t.enter target) b :=
  ⟨h.background, h.params, (h.push16 t.pc).memory⟩

end

/-! ## The operations that instructions share, from their own state -/

theorem State.write8_effect (s : State) (x : Word) (v : Byte) : Effect s (s.write8 x v) s.background :=
  (Effect.refl s).write8 x v

theorem State.write16_effect (s : State) (x v : Word) : Effect s (s.write16 x v) s.background :=
  (s.write8_effect x (loByte v)).write8 (x + 1#16) (hiByte v)

theorem State.exchangeTop_effect (s : State) (v : Word) : Effect s (s.exchangeTop v) s.background :=
  (s.write8_effect (s.sp + 1#16) (hiByte v)).write8 s.sp (loByte v)

theorem State.accept8_effect (s : State) (x : Result8) : Effect s (s.accept8 x) s.background := ⟨rfl, rfl, .refl⟩

theorem State.acceptLogic_effect (s : State) (res : Byte) (h : Bool) :
    Effect s (s.acceptLogic res h) s.background := ⟨rfl, rfl, .refl⟩

theorem State.acceptMem_effect (s : State) (x : Word) (y : Result8) : Effect s (s.acceptMem x y) s.background :=
  (s.write8_effect x y.res).storeFlags y.flags

theorem State.shiftMem_effect (s : State) (x : Word) (y : ShiftResult) : Effect s (s.shiftMem x y) s.background :=
  (s.write8_effect x y.res).storeFlags (shiftFlags y)

theorem State.acceptReg_effect (s : State) (r : Reg) (x : Result8) : Effect s (s.acceptReg r x) s.background :=
  ((Effect.refl s).writeReg r x.res).storeFlags x.flags

theorem State.shiftReg_effect (s : State) (r : Reg) (x : ShiftResult) : Effect s (s.shiftReg r x) s.background :=
  ((Effect.refl s).writeReg r x.res).storeFlags (shiftFlags x)

theorem State.blockTransfer_effect (s : State) (delta : Word) : Effect s (s.blockTransfer delta) s.background :=
  ((((s.write8_effect _ _).writePair .de _).setHL _).writePair .bc _).storeFlags _

theorem State.blockCompare_effect (s : State) (delta : Word) : Effect s (s.blockCompare delta) s.background :=
  (((Effect.refl s).setHL _).writePair .bc _).storeFlags _

theorem State.blockIn_effect (s : State) (delta : Word) :
    Effect s (s.blockIn delta) (s.afterIoRead s.portBC).background :=
  ((Effect.afterIoRead s s.portBC).write8 _ _).blockIoEnd delta

theorem State.returnFromInterrupt_effect (s : State) :
    Effect s s.returnFromInterrupt { s.background with iff1 := s.iff2 } := by
  rw [State.returnFromInterrupt_spec]
  exact ⟨rfl, rfl, .refl⟩

theorem State.acceptDigit_effect (s : State) (m a : Byte) : Effect s (s.acceptDigit m a) s.background :=
  (((Effect.refl s).writeReg .a a).write8 s.hl m).storeFlags _

/-! ## Every instruction -/

/-- What an instruction does outside the general registers. The cases go by the operation an instruction ends in, and the
rest are plain updates of registers or of the background. -/
theorem exec_effect {i : Instr} {s t : State} (h : exec i s = .next t) : Effect s t (s.backgroundAfter i) := by
  cases i with
  | addAR | addAN | addAAtHL | addAAtIX | addAAtIY | adcAR | adcAN | adcAAtHL | adcAAtIX | adcAAtIY
  | subR | subN | subAtHL | subAtIX | subAtIY | sbcAR | sbcAN | sbcAAtHL | sbcAAtIX | sbcAAtIY =>
    cases h
    exact s.accept8_effect _
  | andR | andN | andAtHL | andAtIX | andAtIY | orR | orN | orAtHL | orAtIX | orAtIY
  | xorR | xorN | xorAtHL | xorAtIX | xorAtIY =>
    cases h
    exact s.acceptLogic_effect _ _
  | cpR | cpN | cpAtHL | cpAtIX | cpAtIY | ccf | scf | bitBR | bitBAtHL | bitBAtIX | bitBAtIY =>
    cases h
    exact (Effect.refl s).storeFlags _
  | incR r | decR r =>
    cases h
    exact s.acceptReg_effect r _
  | incAtHL | incAtIX | incAtIY | decAtHL | decAtIX | decAtIY =>
    cases h
    exact s.acceptMem_effect _ _
  | rlcR r | rlR r | rrcR r | rrR r | slaR r | sraR r | srlR r =>
    cases h
    exact s.shiftReg_effect r _
  | rlcAtHL | rlcAtIX | rlcAtIY | rlAtHL | rlAtIX | rlAtIY | rrcAtHL | rrcAtIX | rrcAtIY | rrAtHL | rrAtIX | rrAtIY
  | slaAtHL | slaAtIX | slaAtIY | sraAtHL | sraAtIX | sraAtIY | srlAtHL | srlAtIX | srlAtIY =>
    cases h
    exact s.shiftMem_effect _ _
  | rld | rrd =>
    cases h
    exact s.acceptDigit_effect _ _
  | ldRR r | ldRN r | ldRAtHL r | ldRAtIX r | ldRAtIY r | setBR _ r | resBR _ r =>
    cases h
    exact (Effect.refl s).writeReg r _
  | incSs p | decSs p | ldDdNN p | ldDdAtNN p =>
    cases h
    exact (Effect.refl s).writePair p _
  | addHLSs | adcHLSs | sbcHLSs =>
    cases h
    exact ((Effect.refl s).setHL _).storeFlags _
  | ldAtHLR | ldAtIXR | ldAtIYR | ldAtHLN | ldAtIXN | ldAtIYN | ldAtBCA | ldAtDEA | ldAtNNA
  | setBAtHL | setBAtIX | setBAtIY | resBAtHL | resBAtIX | resBAtIY =>
    cases h
    exact s.write8_effect _ _
  | ldAtNNHL | ldAtNNDd | ldAtNNIX | ldAtNNIY =>
    cases h
    exact s.write16_effect _ _
  | pushQq | pushIX | pushIY =>
    cases h
    exact (Effect.refl s).push16 _
  | popQq q =>
    cases h
    exact (Effect.refl s).popped.writeStackPair q _
  | exAtSPHL =>
    cases h
    exact (s.exchangeTop_effect s.hl).setHL s.stackTop
  | exAtSPIX =>
    cases h
    exact (s.exchangeTop_effect s.ix).setIX s.stackTop
  | exAtSPIY =>
    cases h
    exact (s.exchangeTop_effect s.iy).setIY s.stackTop
  | ldi | ldd =>
    cases h
    exact s.blockTransfer_effect _
  | ldir | lddr =>
    cases h
    exact (s.blockTransfer_effect _).repeatIf _
  | cpi | cpd =>
    cases h
    exact s.blockCompare_effect _
  | cpir | cpdr =>
    cases h
    exact (s.blockCompare_effect _).repeatIf _
  | ini | ind =>
    cases h
    exact s.blockIn_effect _
  | inir | indr =>
    cases h
    exact (s.blockIn_effect _).repeatIf _
  | inRC r =>
    cases h
    exact ((Effect.afterIoRead s s.portBC).writeReg r _).storeFlags _
  | callNN | rst =>
    cases h
    exact (Effect.refl s).enter _
  | retn =>
    cases h
    exact s.returnFromInterrupt_effect
  | reti =>
    cases h
    exact s.returnFromInterrupt_effect.setBus (.reti :: s.bus)
  | callCcNN cc nn =>
    cases h
    split
    · exact (Effect.refl s).enter nn
    · exact .refl s
  | retCc cc =>
    cases h
    split
    · exact ⟨rfl, rfl, .refl⟩
    · exact .refl s
  | daa =>
    have h : execDaa s = .next t := h
    unfold execDaa at h
    split at h
    · cases h
      exact ⟨rfl, rfl, .refl⟩
    · cases h
      exact ⟨rfl, rfl, .refl⟩
  | _ =>
    cases h
    exact ⟨rfl, rfl, .refl⟩

/-! ## The rules over all instructions -/

section
variable (s : State) {i : Instr}

theorem State.backgroundAfter_i (hi : i ≠ .ldIA) : (s.backgroundAfter i).i = s.i := by
  cases i with
  | ldIA => exact absurd rfl hi
  | _ => rfl

theorem State.backgroundAfter_r (hi : i ≠ .ldRefreshA) : (s.backgroundAfter i).r = s.r := by
  cases i with
  | ldRefreshA => exact absurd rfl hi
  | _ => rfl

theorem State.backgroundAfter_im (hi : i ∉ [.im0, .im1, .im2]) : (s.backgroundAfter i).im = s.im := by
  cases i with
  | im0 | im1 | im2 => exact absurd (by simp) hi
  | _ => rfl

theorem State.backgroundAfter_iff2_eiShadow (hi : i ∉ [.di, .ei]) :
    (s.backgroundAfter i).iff2 = s.iff2 ∧ (s.backgroundAfter i).eiShadow = s.eiShadow := by
  cases i with
  | di | ei => exact absurd (by simp) hi
  | _ => exact ⟨rfl, rfl⟩

theorem State.backgroundAfter_iff1 (hi : i ∉ [.di, .ei, .reti, .retn]) : (s.backgroundAfter i).iff1 = s.iff1 := by
  cases i with
  | di | ei | reti | retn => exact absurd (by simp) hi
  | _ => rfl

theorem State.backgroundAfter_halted (hi : i ≠ .halt) : (s.backgroundAfter i).halted = s.halted := by
  cases i with
  | halt => exact absurd rfl hi
  | _ => rfl

theorem State.backgroundAfter_requests :
    (s.backgroundAfter i).nmiPending = s.nmiPending ∧ (s.backgroundAfter i).inputs = s.inputs := by
  cases i <;> exact ⟨rfl, rfl⟩

theorem State.backgroundAfter_altAF (hi : i ≠ .exAFAF) :
    (s.backgroundAfter i).altA = s.altA ∧ (s.backgroundAfter i).altF = s.altF := by
  cases i with
  | exAFAF => exact absurd rfl hi
  | _ => exact ⟨rfl, rfl⟩

theorem State.backgroundAfter_altPairs (hi : i ≠ .exx) :
    (s.backgroundAfter i).altB = s.altB ∧ (s.backgroundAfter i).altC = s.altC ∧
      (s.backgroundAfter i).altD = s.altD ∧ (s.backgroundAfter i).altE = s.altE ∧
      (s.backgroundAfter i).altH = s.altH ∧ (s.backgroundAfter i).altL = s.altL := by
  cases i with
  | exx => exact absurd rfl hi
  | _ => exact ⟨rfl, rfl, rfl, rfl, rfl, rfl⟩

/-- The I/O space and the bus are reached by the twelve input and output instructions and RETI alone
(20_memory.md R81; 48 R486). -/
theorem State.backgroundAfter_ports (hinAN : ∀ n, i ≠ .inAN n) (hinRC : ∀ r, i ≠ .inRC r)
    (houtNA : ∀ n, i ≠ .outNA n) (houtCR : ∀ r, i ≠ .outCR r)
    (hblock : i ∉ [.ini, .inir, .ind, .indr, .outi, .otir, .outd, .otdr]) :
    (s.backgroundAfter i).ioSpace = s.ioSpace ∧ (i ≠ .reti → (s.backgroundAfter i).bus = s.bus) := by
  cases i with
  | inAN n => exact absurd rfl (hinAN n)
  | inRC r => exact absurd rfl (hinRC r)
  | outNA n => exact absurd rfl (houtNA n)
  | outCR r => exact absurd rfl (houtCR r)
  | ini | inir | ind | indr | outi | otir | outd | otdr => exact absurd (by simp) hblock
  | reti => exact ⟨rfl, fun hi => absurd rfl hi⟩
  | _ => exact ⟨rfl, fun _ => rfl⟩

end

/-- Settles O20: the frame of `State.backgroundAfter`, field by field. -/
theorem controlStateFrame : Obligations.ControlStateFrame := by
  intro i s t h
  obtain ⟨hb, hp, -⟩ := exec_effect h
  obtain ⟨hnmi, hinputs⟩ := s.backgroundAfter_requests (i := i)
  have hi := s.backgroundAfter_i (i := i)
  have hr := s.backgroundAfter_r (i := i)
  have him := s.backgroundAfter_im (i := i)
  have hiff2 := s.backgroundAfter_iff2_eiShadow (i := i)
  have hiff1 := s.backgroundAfter_iff1 (i := i)
  have hhalted := s.backgroundAfter_halted (i := i)
  rw [← hb] at hnmi hinputs hi hr him hiff2 hiff1 hhalted
  exact ⟨hi, hr, him, hiff2, hiff1, hhalted, hnmi, hinputs, hp⟩

/-- Settles O21: the frame of `State.backgroundAfter`, field by field. -/
theorem alternateSetAndPortsFrame : Obligations.AlternateSetAndPortsFrame := by
  intro i s t h
  have hAF := s.backgroundAfter_altAF (i := i)
  have hpairs := s.backgroundAfter_altPairs (i := i)
  have hports := s.backgroundAfter_ports (i := i)
  rw [← (exec_effect h).background] at hAF hpairs hports
  exact ⟨hAF, hpairs, hports⟩

/-! ## The step that runs an instruction -/

theorem stopUndefined_ne_next (p : UndefOpcode) (bytes : List Byte) (t : State) :
    stopUndefined p bytes ≠ .next t := by
  cases p <;> exact nofun

/-- A step that runs an instruction and answers a next state found one, and R advanced after its meaning. -/
theorem runDecoded_next {s t : State} {start : Instr → State} {d : DecodeResult}
    (h : runDecoded s start d = .next t) :
    ∃ i rest u, d = .ok (i, rest) ∧ exec i (start i) = .next u ∧ t = u.advanceRFor i := by
  rcases runDecoded_cases s start d with ⟨i, rest, u, hd, hu, hrun⟩ | ⟨e, -, hstop⟩
  · exact ⟨i, rest, u, hd, hu, Host.Outcome.next.inj (h.symm.trans hrun)⟩
  · exact absurd (hstop.symm.trans h) (stopUndefined_ne_next _ _ _)

theorem runDecoded_of_exec {s t : State} {start : Instr → State} {i : Instr} {rest : List Byte}
    (h : exec i (start i) = .next t) : runDecoded s start (.ok (i, rest)) = .next (t.advanceRFor i) :=
  congrArg (finishInstr i) h

theorem length_encode (i : Instr) : (encode i).length = i.length := by
  cases i <;> rfl

/-- Settles O5: `step_fetch`, with the length of the instruction read off its encoding. -/
theorem stepRunsDecoded : Obligations.StepRunsDecoded := by
  intro s i rest hquiet hrun hdecode
  obtain ⟨t, ht⟩ := exec_next i (State.afterFetch { s with inputs := s.inputs.tail } i)
  rw [step_fetch hquiet hrun, hdecode, runDecoded_of_exec ht, length_encode]
  have hmeaning : exec i { s with pc := s.pc + BitVec.ofNat 16 i.length, eiShadow := false, inputs := s.inputs.tail,
                                  free := s.free + 1 } = .next t := ht
  rw [hmeaning]
  rfl

/-! ## The three modes of a maskable interrupt (60_exceptions.md R607 to R609) -/

theorem acceptInt_im0 {s : State} {bytes : List Byte} (h : s.im = .im0) : acceptInt s bytes =
    runDecoded s.acceptIntCommon (fun _ => { s.acceptIntCommon with free := s.free + 5 })
      (decode (s.suppliedBytes bytes)) := by
  unfold acceptInt
  rw [h]
  rfl

theorem acceptInt_im1 {s : State} {bytes : List Byte} (h : s.im = .im1) :
    acceptInt s bytes = .next (s.acceptIntCommon.respondMode1.advanceR none) := by
  unfold acceptInt
  rw [h]

theorem acceptInt_im2 {s : State} {bytes : List Byte} (h : s.im = .im2) : acceptInt s bytes =
    .next ((s.acceptIntCommon.drawn.respondMode2 (s.suppliedVector bytes)).advanceR none) := by
  unfold acceptInt
  rw [h]
  rfl

/-! ## The invariant -/

/-- Stores keep memory in canonical form. -/
theorem StoredFrom.wf {s : State} {m : Memory} (h : StoredFrom s m) (hs : Memory.wf s.mem = true) :
    Memory.wf m = true := by
  induction h with
  | refl => exact hs
  | store x v _ ih => exact State.memAfter_wf (s := { s with mem := _ }) x v ih

theorem State.Inv.of_disabled {s : State} (hmem : Memory.wf s.mem = true) (hiff1 : s.iff1 = false)
    (hshadow : s.eiShadow = false) : s.Inv where
  memory := hmem
  enabled h := absurd (hiff1.symm.trans h) Bool.false_ne_true
  holdOff h := absurd (hshadow.symm.trans h) Bool.false_ne_true

theorem State.Inv.advanceR {s : State} (h : s.Inv) (cause : Option Instr) : (s.advanceR cause).Inv :=
  ⟨h.memory, h.enabled, h.holdOff⟩

theorem State.Inv.advanceRFor {s : State} (h : s.Inv) (i : Instr) : (s.advanceRFor i).Inv := by
  unfold State.advanceRFor
  split
  · exact ⟨h.memory, h.enabled, h.holdOff⟩
  · exact h.advanceR _

/-- EI and DI write both flip-flops, RETI and RETN copy the second to the first (10_state.md R55). -/
theorem State.backgroundAfter_enabled {s : State} (h : s.iff1 = true → s.iff2 = true) (i : Instr) :
    (s.backgroundAfter i).iff1 = true → (s.backgroundAfter i).iff2 = true := by
  cases i with
  | di | ei | reti | retn => exact id
  | _ => exact h

/-- With no hold-off standing and the CPU running, only EI begins a hold-off (10_state.md R59). -/
theorem State.backgroundAfter_holdOff {s : State} (hrun : s.halted = false) (hshadow : s.eiShadow = false)
    (i : Instr) :
    (s.backgroundAfter i).eiShadow = true → (s.backgroundAfter i).iff1 = true ∧ (s.backgroundAfter i).halted = false := by
  intro h
  by_cases hi : i ∈ [.di, .ei]
  · simp only [List.mem_cons, List.not_mem_nil, or_false] at hi
    rcases hi with rfl | rfl
    · exact absurd h Bool.false_ne_true
    · exact ⟨rfl, hrun⟩
  · rw [(s.backgroundAfter_iff2_eiShadow hi).2, hshadow] at h
    exact absurd h Bool.false_ne_true

/-- A running CPU with no hold-off standing keeps the invariant in every instruction. -/
theorem exec_keeps_inv {i : Instr} {s t : State} (hs : s.Inv) (hrun : s.halted = false)
    (hshadow : s.eiShadow = false) (h : exec i s = .next t) : t.Inv := by
  obtain ⟨hb, -, hmem⟩ := exec_effect h
  have enabled := State.backgroundAfter_enabled hs.enabled i
  have holdOff := State.backgroundAfter_holdOff hrun hshadow i
  rw [← hb] at enabled holdOff
  exact ⟨hmem.wf hs.memory, enabled, holdOff⟩

theorem runDecoded_keeps_inv {s t : State} {start : Instr → State} {d : DecodeResult} (hs : ∀ i, (start i).Inv)
    (hrun : ∀ i, (start i).halted = false) (hshadow : ∀ i, (start i).eiShadow = false)
    (h : runDecoded s start d = .next t) : t.Inv := by
  obtain ⟨i, -, u, -, hu, rfl⟩ := runDecoded_next h
  exact (exec_keeps_inv (hs i) (hrun i) (hshadow i) hu).advanceRFor i

theorem State.Inv.afterFetch {s : State} (h : s.Inv) (i : Instr) : (s.afterFetch i).Inv where
  memory := h.memory
  enabled := h.enabled
  holdOff hshadow := absurd hshadow Bool.false_ne_true

theorem State.Inv.idle {s : State} (h : s.Inv) : s.idle.Inv where
  memory := h.memory
  enabled := h.enabled
  holdOff hshadow := absurd hshadow Bool.false_ne_true

theorem State.resetCpu_inv {s : State} (h : Memory.wf s.mem = true) : s.resetCpu.Inv := .of_disabled h rfl rfl

theorem State.acceptNmi_inv {s : State} (h : Memory.wf s.mem = true) : s.acceptNmi.Inv :=
  .of_disabled (State.push16_wf (s := { s with nmiPending := false, halted := false, eiShadow := false, iff1 := false })
    s.pc h) rfl rfl

/-- Acceptance of a maskable interrupt disables interrupts and ends the hold-off before it does anything else. -/
theorem acceptInt_keeps_inv {s t : State} {bytes : List Byte} (hs : Memory.wf s.mem = true)
    (h : acceptInt s bytes = .next t) : t.Inv := by
  cases hmode : s.im with
  | im0 =>
    rw [acceptInt_im0 hmode] at h
    refine runDecoded_keeps_inv (fun _ => ?_) (fun _ => rfl) (fun _ => rfl) h
    exact .of_disabled hs rfl rfl
  | im1 =>
    rw [acceptInt_im1 hmode] at h
    cases h
    have entered : s.acceptIntCommon.respondMode1.Inv :=
      .of_disabled (State.push16_wf (s := s.acceptIntCommon) s.pc hs) rfl rfl
    exact entered.advanceR none
  | im2 =>
    rw [acceptInt_im2 hmode] at h
    cases h
    have entered (v : Byte) : (s.acceptIntCommon.drawn.respondMode2 v).Inv :=
      .of_disabled (State.push16_wf (s := s.acceptIntCommon.drawn) s.pc hs) rfl rfl
    exact (entered _).advanceR none

/-- Settles O10: the five kinds of step. Reset and the entries leave interrupts disabled and no hold-off, the idle step
ends the hold-off, and an instruction keeps the invariant by `exec_keeps_inv`. -/
theorem stepKeepsInvariant : Obligations.StepKeepsInvariant := by
  intro s t hs h
  have sampled : s.afterSampling.Inv := ⟨hs.memory, hs.enabled, hs.holdOff⟩
  rcases step_cases s with ⟨-, hstep⟩ | ⟨-, -, hstep⟩ | ⟨-, -, bytes, -, -, -, hstep⟩ | ⟨-, -, -, hstep⟩ |
    ⟨-, -, hrun, hstep⟩ <;> rw [hstep] at h
  · cases h
    exact State.resetCpu_inv sampled.memory
  · cases h
    exact (State.acceptNmi_inv sampled.memory).advanceR none
  · exact acceptInt_keeps_inv sampled.memory h
  · cases h
    exact sampled.idle
  · exact runDecoded_keeps_inv sampled.afterFetch (fun _ => hrun) (fun _ => rfl) h

/-- Settles O9: after reset memory is empty, interrupts are disabled and no hold-off stands. -/
theorem invariantAtReset : Obligations.InvariantAtReset := .of_disabled State.reset_mem_wf rfl rfl

/-- Settles O8: the fields of `State.reset`, one by one. -/
theorem resetState : Obligations.ResetState := ⟨rfl, rfl, rfl, rfl, rfl, rfl, rfl, rfl, rfl⟩

/-! ## R -/

theorem causeFetches_some (i : Instr) : causeFetches (some i) =
    if ∃ pre ∈ [0xCB#8, 0xDD#8, 0xED#8, 0xFD#8], (encode i).head? = some pre then 2 else 1 := by
  cases h : encode i with
  | nil => simp [causeFetches, opcodeFetches, h]
  | cons b0 bs => simp [causeFetches, opcodeFetches, h]

/-- `StepsR` looks at R and the parameters alone. -/
theorem StepsR.congr {s s' t : State} {cause : Option Instr} (hr : s'.r = s.r) (hp : s'.params = s.params)
    (h : StepsR s t cause) : StepsR s' t cause := by
  unfold StepsR at h ⊢
  rw [hr, hp]
  exact h

/-- An advance from a state with R and the parameters of `s`. -/
theorem State.advanceR_stepsR_of_eq {s u : State} (cause : Option Instr) (hr : u.r = s.r) (hp : u.params = s.params) :
    StepsR s (u.advanceR cause) cause :=
  (u.advanceR_stepsR cause).congr hr.symm hp.symm

/-- R in a step whose instruction runs in a state with A, R and the parameters of `s`. -/
theorem runDecoded_runsR {s s' t : State} {start : Instr → State} {i : Instr} {rest : List Byte}
    (ha : (start i).a = s.a) (hr : (start i).r = s.r) (hp : (start i).params = s.params)
    (h : runDecoded s' start (.ok (i, rest)) = .next t) : RunsR s t i := by
  obtain ⟨j, rest', u, hd, hu, rfl⟩ := runDecoded_next h
  cases hd
  obtain ⟨hb, hparams, -⟩ := exec_effect hu
  have hur : u.r = ((start i).backgroundAfter i).r := congrArg Background.r hb
  unfold RunsR State.advanceRFor
  split
  · next hi =>
    subst hi
    exact hur.trans ha
  · next hi =>
    rw [State.backgroundAfter_r _ hi] at hur
    exact State.advanceR_stepsR_of_eq _ (hur.trans hr) (hparams.trans hp)

/-- The step that accepts a non-maskable interrupt. -/
theorem step_nmi {s : State} (hreset : s.boundaryInput.reset = false)
    (hnmi : s.nmiPending = true ∨ s.boundaryInput.nmi = true) :
    step s = .next (s.afterSampling.acceptNmi.advanceR none) := by
  have latched : s.afterSampling.nmiPending = true := by simpa using hnmi
  exact (if_neg (by simp [hreset])).trans (if_pos latched)

/-- The entry in the modes that run no instruction. -/
theorem acceptInt_stepsR {s t : State} {given : List Byte} (hmode : s.im ≠ .im0)
    (h : acceptInt s given = .next t) : StepsR s t none := by
  cases him : s.im with
  | im0 => exact absurd him hmode
  | im1 =>
    rw [acceptInt_im1 him] at h
    cases h
    exact State.advanceR_stepsR_of_eq none (by simp) (by simp)
  | im2 =>
    rw [acceptInt_im2 him] at h
    cases h
    exact State.advanceR_stepsR_of_eq none (by simp) (by simp)

/-- Settles O19: R of each kind of step, by `State.advanceR_stepsR`, and of an instruction by `exec_effect`. -/
theorem refreshAdvance : Obligations.RefreshAdvance := by
  refine ⟨⟨rfl, causeFetches_some⟩, fun s t hreset h => ⟨fun hnmi => ?_, fun given hint hmode => ?_,
    fun given i rest hint hmode hdecode => ?_, fun hquiet hhalted => ?_, fun i rest hquiet hrun hdecode => ?_⟩⟩
  · rw [step_nmi hreset hnmi] at h
    cases h
    exact State.advanceR_stepsR_of_eq none rfl rfl
  · rw [step_acceptsInt hint] at h
    have sampled := acceptInt_stepsR (s := { s with inputs := s.inputs.tail }) hmode h
    exact sampled.congr rfl rfl
  · have supplied : decode (State.suppliedBytes { s with inputs := s.inputs.tail } given) = .ok (i, rest) := hdecode
    rw [step_acceptsInt hint, acceptInt_im0 (s := { s with inputs := s.inputs.tail }) hmode, supplied] at h
    exact runDecoded_runsR rfl rfl rfl h
  · rw [step_halted hquiet hhalted] at h
    cases h
    exact State.advanceR_stepsR_of_eq (some .nop) rfl rfl
  · rw [step_fetch hquiet hrun, hdecode] at h
    exact runDecoded_runsR rfl rfl rfl h

/-! ## The places of the flags -/

/-- Settles O27: `Flags.ofByte` reads each flag at its place, and undoes `Flags.toByte`. -/
theorem flagPositions : Obligations.FlagPositions := by
  intro f
  have h := Flags.ofByte_toByte f
  exact ⟨congrArg Flags.s h, congrArg Flags.z h, congrArg Flags.b5 h, congrArg Flags.h h, congrArg Flags.b3 h,
    congrArg Flags.pv h, congrArg Flags.n h, congrArg Flags.c h, h⟩

end Sys2Proof.Machine
end

section
/-! SUPPORT AND PROOFS. The rules of 20_memory.md: bytes that are not RAM, over all steps, and the single access. -/

namespace Sys2Proof.Machine

/-! ## Bytes that are not RAM -/

/-- From `s` to `t` the parameters stay, and so does every byte held at an address that `MEMMAP` does not call RAM. -/
def KeepsRom (s t : State) : Prop :=
  t.params = s.params ∧ ∀ x : Word, s.kindAt x ≠ .ram → t.held x = s.held x

/-- `KeepsRom` looks at memory and the parameters alone. -/
theorem KeepsRom.congr {s s' t t' : State} (hm : s'.mem = s.mem) (hp : s'.params = s.params)
    (htm : t'.mem = t.mem) (htp : t'.params = t.params) (h : KeepsRom s t) : KeepsRom s' t' := by
  simpa only [KeepsRom, State.held, State.kindAt, hm, hp, htm, htp] using h

/-- Parameters and memory as they were: nothing is stored at all. -/
theorem KeepsRom.of_eq {s t : State} (hm : t.mem = s.mem) (hp : t.params = s.params) : KeepsRom s t :=
  ⟨hp, fun x _ => congrArg (Memory.read · x.toNat) hm⟩

/-- Stores through a memory map leave the bytes that it does not call RAM. -/
theorem StoredFrom.read_of_not_ram {s : State} {m : Memory} (h : StoredFrom s m) {x : Word}
    (hx : s.kindAt x ≠ .ram) : Memory.read m x.toNat = s.held x := by
  induction h with
  | refl => rfl
  | @store m y v _ ih => exact (State.memAfter_not_ram { s with mem := m } y v x.toNat hx).trans ih

theorem Effect.keepsRom {s t : State} {b : Background} (h : Effect s t b) : KeepsRom s t :=
  ⟨h.params, fun _ hx => h.memory.read_of_not_ram hx⟩

/-! ## Each kind of step -/

theorem State.advanceRFor_mem (s : State) (i : Instr) : (s.advanceRFor i).mem = s.mem := by
  unfold State.advanceRFor
  split <;> rfl

theorem State.advanceRFor_params (s : State) (i : Instr) : (s.advanceRFor i).params = s.params := by
  unfold State.advanceRFor
  split <;> rfl

/-- An instruction keeps ROM by `exec_effect`, and R's advance stores nothing. -/
theorem runDecoded_keepsRom {s s' t : State} {start : Instr → State} {d : DecodeResult}
    (hm : ∀ i, (start i).mem = s.mem) (hp : ∀ i, (start i).params = s.params)
    (h : runDecoded s' start d = .next t) : KeepsRom s t := by
  obtain ⟨i, -, u, -, hu, rfl⟩ := runDecoded_next h
  exact (exec_effect hu).keepsRom.congr (hm i).symm (hp i).symm (u.advanceRFor_mem i) (u.advanceRFor_params i)

theorem State.push16_keepsRom (s : State) (v : Word) : KeepsRom s (s.push16 v) :=
  ((Effect.refl s).push16 v).keepsRom

/-- The push of PC is the one store of an entry to a non-maskable interrupt (60_exceptions.md R610). -/
theorem State.acceptNmi_keepsRom (s : State) : KeepsRom s s.acceptNmi :=
  (State.push16_keepsRom { s with nmiPending := false, halted := false, eiShadow := false, iff1 := false } s.pc).congr
    rfl rfl rfl rfl

/-- In mode 0 the supplied instruction runs; in modes 1 and 2 the push of PC is the one store
(60_exceptions.md R607 to R609). -/
theorem acceptInt_keepsRom {s t : State} {bytes : List Byte} (h : acceptInt s bytes = .next t) : KeepsRom s t := by
  cases hmode : s.im with
  | im0 =>
    rw [acceptInt_im0 hmode] at h
    refine runDecoded_keepsRom (fun _ => ?_) (fun _ => ?_) h <;> rfl
  | im1 =>
    rw [acceptInt_im1 hmode] at h
    cases h
    exact (s.acceptIntCommon.push16_keepsRom s.pc).congr rfl rfl rfl rfl
  | im2 =>
    rw [acceptInt_im2 hmode] at h
    cases h
    exact (s.acceptIntCommon.drawn.push16_keepsRom s.pc).congr rfl rfl rfl rfl

/-- Settles O11: the five kinds of step. Reset and the idle step store nothing, the entries push PC, and an instruction
stores through the memory map. -/
theorem stepKeepsRom : Obligations.StepKeepsRom := by
  intro s t h
  change KeepsRom s t
  rcases step_cases s with ⟨-, hstep⟩ | ⟨-, -, hstep⟩ | ⟨-, -, bytes, -, -, -, hstep⟩ | ⟨-, -, -, hstep⟩ |
    ⟨-, -, -, hstep⟩ <;> rw [hstep] at h
  · cases h
    exact .of_eq rfl rfl
  · cases h
    exact s.afterSampling.acceptNmi_keepsRom.congr rfl rfl rfl rfl
  · exact (acceptInt_keepsRom h).congr rfl rfl rfl rfl
  · cases h
    exact .of_eq rfl rfl
  · refine runDecoded_keepsRom (fun _ => ?_) (fun _ => ?_) h <;> rfl

/-! ## The single access -/

/-- The default memory map names no region (92_eei_decisions.md). -/
theorem State.kindAt_of_default {s : State} (h : s.params = Params.default) (x : Word) : s.kindAt x = .ram := by
  unfold State.kindAt
  rw [h]
  rfl

/-- Settles O28: `State.read8_held` for the reads, `State.write8_stores` and `State.write16_stores` for the stores. -/
theorem memoryAccess : Obligations.MemoryAccess := fun s hs =>
  ⟨fun _ hx => State.read8_held hx, fun x v => ⟨State.write8_stores x v hs, rfl⟩, fun _ => rfl,
    fun x v => ⟨State.write16_stores x v hs, rfl⟩, fun hdefault x => s.kindAt_of_default hdefault x⟩

end Sys2Proof.Machine
end

section
/-! SUPPORT AND PROOFS. Decoding and encoding (30_encoding.md R110 to R128, R135): the fields of an operation code, the
round trip over every instruction, and what each table of the decoder reads. -/

namespace Sys2Proof

/-! ## The fields of an operation code -/

/-- Case analysis of a two-bit field, named by the bits. -/
theorem field2Cases {p : BitVec 2 → Prop} (b00 : p 0b00#2) (b01 : p 0b01#2) (b10 : p 0b10#2) (b11 : p 0b11#2)
    (x : BitVec 2) : p x := by
  have hx : x = 0#2 ∨ x = 1#2 ∨ x = 2#2 ∨ x = 3#2 := by
    revert x
    decide
  rcases hx with rfl | rfl | rfl | rfl <;> assumption

/-- Case analysis of a three-bit field, named by the bits. -/
theorem field3Cases {p : BitVec 3 → Prop} (b000 : p 0b000#3) (b001 : p 0b001#3) (b010 : p 0b010#3) (b011 : p 0b011#3)
    (b100 : p 0b100#3) (b101 : p 0b101#3) (b110 : p 0b110#3) (b111 : p 0b111#3) (y : BitVec 3) : p y := by
  have hy : y = 0#3 ∨ y = 1#3 ∨ y = 2#3 ∨ y = 3#3 ∨ y = 4#3 ∨ y = 5#3 ∨ y = 6#3 ∨ y = 7#3 := by
    revert y
    decide
  rcases hy with rfl | rfl | rfl | rfl | rfl | rfl | rfl | rfl <;> assumption

theorem opcode_eq_fields : ∀ op : Byte, op = opX op ++ opY op ++ opZ op := by decide

@[simp] theorem opX_fields (x : BitVec 2) (y z : BitVec 3) : opX (x ++ y ++ z) = x := by
  revert x y z
  decide

@[simp] theorem opY_fields (x : BitVec 2) (y z : BitVec 3) : opY (x ++ y ++ z) = y := by
  revert x y z
  decide

@[simp] theorem opZ_fields (x : BitVec 2) (y z : BitVec 3) : opZ (x ++ y ++ z) = z := by
  revert x y z
  decide

theorem eq_code_of_decodeReg : ∀ y : BitVec 3, ∀ r ∈ decodeReg y, y = r.code := by decide

theorem eq_110_of_decodeReg_none : ∀ y : BitVec 3, decodeReg y = none → y = 0b110#3 := by decide

theorem opcode_eq_ofNat {op : Byte} {n : Nat} (h : op.toNat = n) : op = BitVec.ofNat 8 n := by
  rw [← h, BitVec.ofNat_toNat, BitVec.setWidth_eq]

theorem opcode_eq_of_opX {op : Byte} {x : BitVec 2} (hx : (opX op).toNat = x.toNat) : op = x ++ opY op ++ opZ op := by
  rw [← BitVec.eq_of_toNat_eq hx]
  exact opcode_eq_fields op

/-- A load of a register from memory, `01 rrr 110`. -/
theorem opcode_eq_ldRegMem {op : Byte} {r : Reg} (hx : (opX op).toNat = 1) (hy : decodeReg (opY op) = some r)
    (hz : decodeReg (opZ op) = none) : op = 0b01#2 ++ r.code ++ 0b110#3 := by
  rw [← eq_code_of_decodeReg _ r hy, ← eq_110_of_decodeReg_none _ hz]
  exact opcode_eq_of_opX hx

/-- A store of a register to memory, `01 110 rrr`. -/
theorem opcode_eq_ldMemReg {op : Byte} {r : Reg} (hx : (opX op).toNat = 1) (hy : decodeReg (opY op) = none)
    (hz : decodeReg (opZ op) = some r) : op = 0b01#2 ++ 0b110#3 ++ r.code := by
  rw [← eq_code_of_decodeReg _ r hz, ← eq_110_of_decodeReg_none _ hy]
  exact opcode_eq_of_opX hx

/-- An operation on A and memory, `10 ooo 110`. -/
theorem opcode_eq_aluMem {op : Byte} (hx : (opX op).toNat = 2) (hz : decodeReg (opZ op) = none) :
    ∃ o : BitVec 3, op = 0b10#2 ++ o ++ 0b110#3 := by
  rw [← eq_110_of_decodeReg_none _ hz]
  exact ⟨_, opcode_eq_of_opX hx⟩

/-! ## Decoding an encoding -/

theorem decode16_halves (f : Word → Instr) (nn : Word) (rest : List Byte) :
    decode16 f (loByte nn :: hiByte nn :: rest) = .ok (f nn, rest) := by
  rw [decode16, mkWord_hiByte_loByte]

/-- A restart address is the one its field `t` stands for (30_encoding.md R120). -/
theorem restartAddress_restartField : ∀ p : Byte, isRestartAddress p = true → restartAddress (restartField p) = p := by
  decide

theorem decode_encode_rst (t : BitVec 3) (rest : List Byte) :
    decode (encode (.rst (restartAddress t)) ++ rest) = .ok (.rst (restartAddress t), rest) := by
  cases t using field3Cases <;> rfl

/-- Settles O1: an instruction whose operation code holds a field is taken at each value of the field; then the decoder
runs, and only the halves of a word need a lemma. -/
theorem decodeEncode : Obligations.DecodeEncode := by
  intro i rest hwf
  cases i
  case rst p =>
    rw [← restartAddress_restartField p hwf]
    exact decode_encode_rst _ rest
  case adcAR r | addAR r | andR r | cpR r | decR r | inRC r | incR r | ldAtHLR r | ldAtIXR _ r | ldAtIYR _ r
      | ldRAtHL r | ldRAtIX r _ | ldRAtIY r _ | ldRN r _ | orR r | outCR r | rlR r | rlcR r | rrR r | rrcR r
      | sbcAR r | slaR r | sraR r | srlR r | subR r | xorR r => cases r <;> rfl
  case ldRR r r' => cases r <;> cases r' <;> rfl
  case bitBR b r | resBR b r | setBR b r => cases b using field3Cases <;> cases r <;> rfl
  case bitBAtHL b | bitBAtIX b _ | bitBAtIY b _ | resBAtHL b | resBAtIX b _ | resBAtIY b _ | setBAtHL b
      | setBAtIX b _ | setBAtIY b _ => cases b using field3Cases <;> rfl
  case adcHLSs ss | addHLSs ss | addIXPp ss | addIYRr ss | decSs ss | incSs ss | popQq ss | pushQq ss
      | sbcHLSs ss => cases ss <;> rfl
  case retCc cc => cases cc <;> rfl
  case callCcNN cc nn | jpCcNN cc nn => cases cc <;> exact decode16_halves _ nn rest
  case ldDdNN dd nn | ldDdAtNN dd nn => cases dd <;> exact decode16_halves _ nn rest
  case ldAtNNDd nn dd => cases dd <;> exact decode16_halves (.ldAtNNDd · _) nn rest
  case callNN nn | jpNN nn | ldAAtNN nn | ldHLAtNN nn | ldIXNN nn | ldIXAtNN nn | ldIYNN nn | ldIYAtNN nn
      | ldAtNNA nn | ldAtNNHL nn | ldAtNNIX nn | ldAtNNIY nn => exact decode16_halves _ nn rest
  all_goals rfl

/-! ## What the operand readers read -/

/-- The bytes `bs` are the encoding of the well-formed instruction `i`. -/
def Encodes (i : Instr) (bs : List Byte) : Prop := encode i = bs ∧ i.wellFormed = true

/-- If the answer `d`, found behind the bytes `pre` in the bytes `tail`, is an instruction, then `pre ++ tail` begins
with its encoding, the rest is what `d` leaves, and the instruction is well formed. -/
def Reads (pre tail : List Byte) (d : DecodeResult) : Prop :=
  ∀ i rest, d = .ok (i, rest) → pre ++ tail = encode i ++ rest ∧ i.wellFormed = true

theorem Reads.refused {pre tail : List Byte} {e : DecodeError} : Reads pre tail (.error e) := nofun

theorem Reads.decode0 {i : Instr} {pre tail : List Byte} (h : Encodes i pre) : Reads pre tail (decode0 i tail) := by
  rintro j rest ⟨⟩
  exact ⟨by rw [h.1], h.2⟩

theorem Reads.decode1 {f : Byte → Instr} {pre tail : List Byte} (h : ∀ x, Encodes (f x) (pre ++ [x])) :
    Reads pre tail (decode1 f tail) := by
  rcases tail with _ | ⟨x, tail⟩ <;> rintro j rest ⟨⟩
  exact ⟨by simp [(h x).1], (h x).2⟩

theorem Reads.decode2 {f : Byte → Byte → Instr} {pre tail : List Byte} (h : ∀ x y, Encodes (f x y) (pre ++ [x, y])) :
    Reads pre tail (decode2 f tail) := by
  rcases tail with _ | ⟨x, _ | ⟨y, tail⟩⟩ <;> rintro j rest ⟨⟩
  exact ⟨by simp [(h x y).1], (h x y).2⟩

theorem Reads.decode16 {f : Word → Instr} {pre tail : List Byte}
    (h : ∀ nn, Encodes (f nn) (pre ++ [loByte nn, hiByte nn])) : Reads pre tail (decode16 f tail) := by
  rcases tail with _ | ⟨lo, _ | ⟨hi, tail⟩⟩ <;> rintro j rest ⟨⟩
  exact ⟨by simp [(h (mkWord hi lo)).1], (h (mkWord hi lo)).2⟩

/-! ## What the tables read

Each proof follows its table by the fields of the operation code and says of every row which operand bytes it has. -/

theorem decodeMain0_reads (y z : BitVec 3) (tail : List Byte) :
    Reads [0b00#2 ++ y ++ z] tail (decodeMain0 (0b00#2 ++ y ++ z) tail) := by
  cases z using field3Cases
  case b000 =>
    cases y using field3Cases
    case b000 | b001 => exact .decode0 ⟨rfl, rfl⟩
    all_goals exact .decode1 fun _ => ⟨rfl, rfl⟩
  case b001 =>
    cases y using field3Cases
    case b000 | b010 | b100 | b110 => exact .decode16 fun _ => ⟨rfl, rfl⟩
    all_goals exact .decode0 ⟨rfl, rfl⟩
  case b010 =>
    cases y using field3Cases
    case b100 | b101 | b110 | b111 => exact .decode16 fun _ => ⟨rfl, rfl⟩
    all_goals exact .decode0 ⟨rfl, rfl⟩
  case b110 => cases y using field3Cases <;> exact .decode1 fun _ => ⟨rfl, rfl⟩
  all_goals cases y using field3Cases <;> exact .decode0 ⟨rfl, rfl⟩

theorem decodeMain1_reads (y z : BitVec 3) (tail : List Byte) :
    Reads [0b01#2 ++ y ++ z] tail (decodeMain1 (0b01#2 ++ y ++ z) tail) := by
  cases y using field3Cases <;> cases z using field3Cases <;> exact .decode0 ⟨rfl, rfl⟩

theorem decodeMain2_reads (y z : BitVec 3) (tail : List Byte) :
    Reads [0b10#2 ++ y ++ z] tail (decodeMain2 (0b10#2 ++ y ++ z) tail) := by
  cases y using field3Cases <;> cases z using field3Cases <;> exact .decode0 ⟨rfl, rfl⟩

/-- The prefix bytes CB, DD, ED and FD have no row here. -/
theorem decodeMain3_reads (y z : BitVec 3) (tail : List Byte) :
    Reads [0b11#2 ++ y ++ z] tail (decodeMain3 (0b11#2 ++ y ++ z) tail) := by
  cases z using field3Cases
  case b011 =>
    cases y using field3Cases
    case b000 => exact .decode16 fun _ => ⟨rfl, rfl⟩
    case b001 => exact .refused
    case b010 | b011 => exact .decode1 fun _ => ⟨rfl, rfl⟩
    all_goals exact .decode0 ⟨rfl, rfl⟩
  case b101 =>
    cases y using field3Cases
    case b001 => exact .decode16 fun _ => ⟨rfl, rfl⟩
    case b011 | b101 | b111 => exact .refused
    all_goals exact .decode0 ⟨rfl, rfl⟩
  case b010 | b100 => cases y using field3Cases <;> exact .decode16 fun _ => ⟨rfl, rfl⟩
  case b110 => cases y using field3Cases <;> exact .decode1 fun _ => ⟨rfl, rfl⟩
  all_goals cases y using field3Cases <;> exact .decode0 ⟨rfl, rfl⟩

theorem decodeMain_reads (op : Byte) (tail : List Byte) : Reads [op] tail (decodeMain op tail) := by
  rw [opcode_eq_fields op]
  generalize opX op = x, opY op = y, opZ op = z
  rw [decodeMain, opX_fields]
  cases x using field2Cases
  case b00 => exact decodeMain0_reads y z tail
  case b01 => exact decodeMain1_reads y z tail
  case b10 => exact decodeMain2_reads y z tail
  case b11 => exact decodeMain3_reads y z tail

theorem cbReg_encodes : ∀ op : Byte, ∀ r ∈ decodeReg (opZ op), ∀ i ∈ cbReg op r, Encodes i [0xCB#8, op] := by
  unfold Encodes
  decide

theorem cbAtHL_encodes : ∀ op : Byte, decodeReg (opZ op) = none → ∀ i ∈ cbAtHL op, Encodes i [0xCB#8, op] := by
  unfold Encodes
  decide

theorem cbAtIX_encodes (d : Byte) (x : BitVec 2) (y : BitVec 3) :
    ∀ i ∈ cbAtIX (x ++ y ++ 0b110#3) d, Encodes i [0xDD#8, 0xCB#8, d, x ++ y ++ 0b110#3] := by
  cases x using field2Cases <;> cases y using field3Cases <;> rintro i ⟨⟩ <;> exact ⟨rfl, rfl⟩

theorem cbAtIY_encodes (d : Byte) (x : BitVec 2) (y : BitVec 3) :
    ∀ i ∈ cbAtIY (x ++ y ++ 0b110#3) d, Encodes i [0xFD#8, 0xCB#8, d, x ++ y ++ 0b110#3] := by
  cases x using field2Cases <;> cases y using field3Cases <;> rintro i ⟨⟩ <;> exact ⟨rfl, rfl⟩

theorem edBlock_encodes : ∀ y z : BitVec 3, ∀ i ∈ edBlock y.toNat z.toNat, Encodes i [0xED#8, 0b10#2 ++ y ++ z] := by
  unfold Encodes
  decide

theorem edSingle_encodes : ∀ y z : BitVec 3, ∀ i ∈ edSingle y.toNat z.toNat, Encodes i [0xED#8, 0b01#2 ++ y ++ z] := by
  unfold Encodes
  decide

theorem decodeCB_reads (bytes : List Byte) : Reads [0xCB#8] bytes (decodeCB bytes) := by
  cases bytes with
  | nil => exact .refused
  | cons op tail =>
    rw [decodeCB]
    split
    case h_1 i hi =>
      apply Reads.decode0 (pre := [0xCB#8, op])
      split at hi
      case h_1 r hr => exact cbReg_encodes op r hr i hi
      case h_2 hr => exact cbAtHL_encodes op hr i hi
    case h_2 => exact .refused

theorem edDefined_reads {op : Byte} {t : Option Instr} (h : ∀ i ∈ t, Encodes i [0xED#8, op]) (tail : List Byte) :
    Reads [0xED#8, op] tail (edDefined op t tail) := by
  cases t with
  | none => exact .refused
  | some i => exact .decode0 (h i rfl)

theorem decodeED_reads (bytes : List Byte) : Reads [0xED#8] bytes (decodeED bytes) := by
  cases bytes with
  | nil => exact .refused
  | cons op tail =>
    change Reads [0xED#8, op] tail _
    rw [opcode_eq_fields op]
    generalize opX op = x, opY op = y, opZ op = z
    simp only [decodeED, opX_fields, opY_fields, opZ_fields]
    cases x using field2Cases
    case b00 | b11 => exact .refused
    case b10 => exact edDefined_reads (edBlock_encodes y z) tail
    case b01 =>
      cases z using field3Cases
      case b000 | b001 =>
        refine edDefined_reads ?_ tail
        cases y using field3Cases <;> rintro i ⟨⟩ <;> exact ⟨rfl, rfl⟩
      case b010 => cases y using field3Cases <;> exact .decode0 ⟨rfl, rfl⟩
      case b011 =>
        cases y using field3Cases
        case b000 | b010 | b100 | b110 => exact .decode16 (f := (.ldAtNNDd · _)) fun _ => ⟨rfl, rfl⟩
        all_goals exact .decode16 fun _ => ⟨rfl, rfl⟩
      all_goals exact edDefined_reads (edSingle_encodes y _) tail

theorem decodeIndexCB_reads {pre : Byte} {table : Byte → Byte → Option Instr}
    (h : ∀ d (x : BitVec 2) (y : BitVec 3), ∀ i ∈ table (x ++ y ++ 0b110#3) d,
      Encodes i [pre, 0xCB#8, d, x ++ y ++ 0b110#3]) (bytes : List Byte) :
    Reads [pre, 0xCB#8] bytes (decodeIndexCB pre table bytes) := by
  rcases bytes with _ | ⟨d, _ | ⟨op, tail⟩⟩
  · exact .refused
  · exact .refused
  · rw [decodeIndexCB]
    split
    case h_1 i hi =>
      split at hi
      case h_1 => cases hi
      case h_2 hz =>
        apply Reads.decode0 (pre := [pre, 0xCB#8, d, op])
        rw [opcode_eq_fields op, eq_110_of_decodeReg_none _ hz] at hi ⊢
        exact h d _ _ i hi
    case h_2 => exact .refused

theorem decodeDD_reads (bytes : List Byte) : Reads [0xDD#8] bytes (decodeDD bytes) := by
  cases bytes with
  | nil => exact .refused
  | cons op tail =>
    change Reads [0xDD#8, op] tail _
    rw [decodeDD]
    split
    case h_19 =>
      split
      case h_1 r hx hy hz =>
        obtain rfl := opcode_eq_ldRegMem hx hy hz
        exact .decode1 fun _ => ⟨rfl, rfl⟩
      case h_2 r hx hy hz =>
        obtain rfl := opcode_eq_ldMemReg hx hy hz
        exact .decode1 fun _ => ⟨by cases r <;> rfl, rfl⟩
      case h_3 hx hz =>
        obtain ⟨o, rfl⟩ := opcode_eq_aluMem hx hz
        rw [opY_fields]
        cases o using field3Cases <;> exact .decode1 fun _ => ⟨rfl, rfl⟩
      case h_4 => exact .refused
    all_goals obtain rfl := opcode_eq_ofNat ‹op.toNat = _›
    case h_5 | h_6 | h_8 => exact .decode16 fun _ => ⟨rfl, rfl⟩
    case h_10 | h_11 => exact .decode1 fun _ => ⟨rfl, rfl⟩
    case h_12 => exact .decode2 fun _ _ => ⟨rfl, rfl⟩
    case h_13 => exact decodeIndexCB_reads cbAtIX_encodes tail
    all_goals exact .decode0 ⟨rfl, rfl⟩

theorem decodeFD_reads (bytes : List Byte) : Reads [0xFD#8] bytes (decodeFD bytes) := by
  cases bytes with
  | nil => exact .refused
  | cons op tail =>
    change Reads [0xFD#8, op] tail _
    rw [decodeFD]
    split
    case h_19 =>
      split
      case h_1 r hx hy hz =>
        obtain rfl := opcode_eq_ldRegMem hx hy hz
        exact .decode1 fun _ => ⟨rfl, rfl⟩
      case h_2 r hx hy hz =>
        obtain rfl := opcode_eq_ldMemReg hx hy hz
        exact .decode1 fun _ => ⟨by cases r <;> rfl, rfl⟩
      case h_3 hx hz =>
        obtain ⟨o, rfl⟩ := opcode_eq_aluMem hx hz
        rw [opY_fields]
        cases o using field3Cases <;> exact .decode1 fun _ => ⟨rfl, rfl⟩
      case h_4 => exact .refused
    all_goals obtain rfl := opcode_eq_ofNat ‹op.toNat = _›
    case h_5 | h_6 | h_8 => exact .decode16 fun _ => ⟨rfl, rfl⟩
    case h_10 | h_11 => exact .decode1 fun _ => ⟨rfl, rfl⟩
    case h_12 => exact .decode2 fun _ _ => ⟨rfl, rfl⟩
    case h_13 => exact decodeIndexCB_reads cbAtIY_encodes tail
    all_goals exact .decode0 ⟨rfl, rfl⟩

theorem decode_reads (bytes : List Byte) : Reads [] bytes (decode bytes) := by
  cases bytes with
  | nil => exact .refused
  | cons op tail =>
    change Reads [op] tail _
    rw [decode]
    split
    case h_5 => exact decodeMain_reads op tail
    all_goals obtain rfl := opcode_eq_ofNat ‹op.toNat = _›
    case h_1 => exact decodeCB_reads tail
    case h_2 => exact decodeED_reads tail
    case h_3 => exact decodeDD_reads tail
    case h_4 => exact decodeFD_reads tail

/-- Settles O2, by `decode_reads`. -/
theorem decodeSound : Obligations.DecodeSound := decode_reads

/-! ## Fixed words -/

/-- Settles O4: the sequences are decoded one by one. -/
theorem encodedWords : Obligations.EncodedWords := by
  unfold Obligations.EncodedWords
  decide

end Sys2Proof
end

section
/-! SUPPORT AND PROOFS. The encodings that no rule defines (30_encoding.md R127, R135): what each table refuses, and that
every unprefixed operation code has a row. -/

namespace Sys2Proof

/-! ## What the tables refuse -/

theorem decodeCB_refuses_iff (op : Byte) (rest : List Byte) :
    decodeCB (op :: rest) = .error (.undefinedEncoding [0xCB#8, op]) ↔
      decodeCB [op] = .error (.undefinedEncoding [0xCB#8, op]) := by
  rw [decodeCB, decodeCB]
  split
  case h_1 => exact iff_of_false nofun nofun
  case h_2 => exact Iff.rfl

theorem edDefined_refuses_iff (op : Byte) (t : Option Instr) (tail tail' : List Byte) :
    edDefined op t tail = .error (.undefinedEncoding [0xED#8, op]) ↔
      edDefined op t tail' = .error (.undefinedEncoding [0xED#8, op]) := by
  cases t with
  | none => exact Iff.rfl
  | some i => exact iff_of_false nofun nofun

theorem decodeED_refuses_iff (op x y : Byte) (rest : List Byte) :
    decodeED (op :: x :: y :: rest) = .error (.undefinedEncoding [0xED#8, op]) ↔
      decodeED [op, 0, 0] = .error (.undefinedEncoding [0xED#8, op]) := by
  rw [decodeED, decodeED]
  split
  case h_3 | h_4 => split <;> exact iff_of_false nofun nofun
  case h_7 => exact Iff.rfl
  all_goals exact edDefined_refuses_iff ..

theorem decodeIndexCB_refuses_iff {pre : Byte} {table : Byte → Byte → Option Instr} (d op : Byte) (rest : List Byte) :
    decodeIndexCB pre table (d :: op :: rest) = .error (.undefinedEncoding [pre, 0xCB#8, d, op]) ↔
      decodeReg (opZ op) ≠ none ∨ table op d = none := by
  rw [decodeIndexCB]
  cases hz : decodeReg (opZ op) <;> cases ht : table op d <;> simp [decode0]

/-- A refusal behind DD CB or FD CB names four bytes. -/
theorem decodeIndexCB_ne_refuse_two {pre : Byte} {table : Byte → Byte → Option Instr} (d op a b : Byte)
    (rest : List Byte) : decodeIndexCB pre table (d :: op :: rest) ≠ .error (.undefinedEncoding [a, b]) := by
  rw [decodeIndexCB]
  split <;> nofun

theorem decodeDD_refuses_iff (op x y : Byte) (rest : List Byte) :
    decodeDD (op :: x :: y :: rest) = .error (.undefinedEncoding [0xDD#8, op]) ↔
      decodeDD [op, 0, 0] = .error (.undefinedEncoding [0xDD#8, op]) := by
  rw [decodeDD, decodeDD]
  split
  case h_13 => exact iff_of_false (decodeIndexCB_ne_refuse_two x y _ _ rest) (decodeIndexCB_ne_refuse_two 0 0 _ _ [])
  case h_19 =>
    split
    case h_4 => exact Iff.rfl
    all_goals exact iff_of_false nofun nofun
  all_goals exact iff_of_false nofun nofun

theorem decodeFD_refuses_iff (op x y : Byte) (rest : List Byte) :
    decodeFD (op :: x :: y :: rest) = .error (.undefinedEncoding [0xFD#8, op]) ↔
      decodeFD [op, 0, 0] = .error (.undefinedEncoding [0xFD#8, op]) := by
  rw [decodeFD, decodeFD]
  split
  case h_13 => exact iff_of_false (decodeIndexCB_ne_refuse_two x y _ _ rest) (decodeIndexCB_ne_refuse_two 0 0 _ _ [])
  case h_19 =>
    split
    case h_4 => exact Iff.rfl
    all_goals exact iff_of_false nofun nofun
  all_goals exact iff_of_false nofun nofun

/-- The tables behind DD CB d and FD CB d have the gap of the CB table on (HL). -/
theorem cbAtIX_eq_none_iff (op d : Byte) : cbAtIX op d = none ↔ cbAtHL op = none := by
  unfold cbAtIX cbAtHL
  split <;> simp

theorem cbAtIY_eq_none_iff (op d : Byte) : cbAtIY op d = none ↔ cbAtHL op = none := by
  unfold cbAtIY cbAtHL
  split <;> simp

theorem indexCB_gap : ∀ op : Byte, decodeReg (opZ op) ≠ none ∨ cbAtHL op = none ↔ op.toNat % 8 ≠ 6 ∨ op = 0x36#8 := by
  decide

/-! ## The unprefixed operation codes -/

/-- The answer is an instruction. -/
def Accepts (d : DecodeResult) : Prop := ∃ i tail, d = .ok (i, tail)

theorem decodeMain0_accepts (op x y : Byte) (rest : List Byte) : Accepts (decodeMain0 op (x :: y :: rest)) := by
  unfold decodeMain0
  split
  case h_9 | h_18 | h_19 | h_20 | h_21 => split <;> exact ⟨_, _, rfl⟩
  all_goals exact ⟨_, _, rfl⟩

theorem decodeMain1_accepts (op : Byte) (rest : List Byte) : Accepts (decodeMain1 op rest) := by
  unfold decodeMain1
  split <;> exact ⟨_, _, rfl⟩

theorem decodeMain2_accepts (op : Byte) (rest : List Byte) : Accepts (decodeMain2 op rest) := by
  unfold decodeMain2
  split <;> exact ⟨_, _, rfl⟩

theorem decodeMain3_accepts_or_refuses (op x y : Byte) (rest : List Byte) :
    Accepts (decodeMain3 op (x :: y :: rest)) ∨ decodeMain3 op [0, 0] = .error (.undefinedEncoding [op]) := by
  unfold decodeMain3
  split
  case h_23 => exact .inr rfl
  all_goals exact .inl ⟨_, _, rfl⟩

theorem decodeMain_accepts_or_refuses (op x y : Byte) (rest : List Byte) :
    Accepts (decodeMain op (x :: y :: rest)) ∨ decodeMain op [0, 0] = .error (.undefinedEncoding [op]) := by
  unfold decodeMain
  split
  case h_1 => exact .inl (decodeMain0_accepts ..)
  case h_2 => exact .inl (decodeMain1_accepts ..)
  case h_3 => exact .inl (decodeMain2_accepts ..)
  case h_4 => exact decodeMain3_accepts_or_refuses ..

theorem decode_of_not_prefix {op : Byte} (h : op ∉ [0xCB#8, 0xDD#8, 0xED#8, 0xFD#8]) (tail : List Byte) :
    decode (op :: tail) = decodeMain op tail := by
  rw [decode]
  split
  case h_5 => rfl
  all_goals
    obtain rfl := opcode_eq_ofNat ‹op.toNat = _›
    exact absurd (by decide) h

/-- R127: only the four prefixes have no row. -/
theorem decodeMain_refuses_prefix :
    ∀ op, decodeMain op [0, 0] = .error (.undefinedEncoding [op]) → op ∈ [0xCB#8, 0xDD#8, 0xED#8, 0xFD#8] := by
  decide

/-- Settles O3: whether a table refuses an operation code does not depend on the bytes behind it, so that each list of
codes is compared with the table at operand bytes zero. -/
theorem undefinedEncodings : Obligations.UndefinedEncodings := by
  intro op d x y rest
  refine ⟨(decodeCB_refuses_iff op rest).trans ?_, (decodeED_refuses_iff op x y rest).trans ?_, ?_, ?_⟩
  · revert op
    decide
  · revert op
    decide
  · rw [List.forall_mem_cons, List.forall_mem_singleton]
    refine ⟨⟨(decodeDD_refuses_iff op x y rest).trans ?_, (decodeIndexCB_refuses_iff d op rest).trans ?_⟩,
      (decodeFD_refuses_iff op x y rest).trans ?_, (decodeIndexCB_refuses_iff d op rest).trans ?_⟩
    · revert op
      decide
    · rw [cbAtIX_eq_none_iff]
      exact indexCB_gap op
    · revert op
      decide
    · rw [cbAtIY_eq_none_iff]
      exact indexCB_gap op
  · intro hop
    rw [decode_of_not_prefix hop]
    exact (decodeMain_accepts_or_refuses op x y rest).resolve_right fun h => hop (decodeMain_refuses_prefix op h)

end Sys2Proof
end

section
/-! SUPPORT AND PROOFS. 8-bit sums and logic on A, and 16-bit arithmetic (file 40 of the spec, with the ORs, XORs and
SBC HL,ss of files 47 and 49): what each shared end of an instruction writes, then the instructions form by form. -/

namespace Sys2Proof.Machine

/-! ## S, Z and P/V of a byte (00_scope.md R12, R13) -/

theorem toNat_foldl_xor {α : Type} (p : α → Bool) (l : List α) (b : Bool) :
    (l.foldl (fun b k => b ^^ p k) b).toNat = (b.toNat + l.countP p) % 2 := by
  induction l generalizing b with
  | nil => cases b <;> rfl
  | cons k l ih =>
    rw [List.foldl_cons, ih, List.countP_cons]
    cases b <;> cases p k <;> simp <;> omega

/-- The exclusive or of the bits of a byte is the parity of their count. -/
theorem parity_iff_even_onesCount (v : Byte) : parity v = true ↔ onesCount v % 2 = 0 := by
  have fold : parity v = !(List.range 8).foldl (fun b k => b ^^ v.getLsbD k) false := by
    simp [parity, List.range_succ]
  have odd := toNat_foldl_xor (fun k => v.getLsbD k) (List.range 8) false
  rw [Bool.toNat_false, Nat.zero_add] at odd
  rw [fold, onesCount, ← odd, Bool.not_eq_true', Bool.toNat_eq_zero]

theorem isZero_iff_eq_zero {w : Nat} (v : BitVec w) : isZero v = true ↔ v = 0#w := by
  rw [isZero_iff, BitVec.toNat_eq, BitVec.toNat_zero]

theorem FlagsOfByte.of_sign_zero_parity {f : Flags} {v : Byte} (hs : f.s = v.msb) (hz : f.z = isZero v)
    (hpv : f.pv = parity v) : FlagsOfByte f v :=
  ⟨hs ▸ msb_iff_half_le rfl v, hz ▸ isZero_iff_eq_zero v, hpv ▸ parity_iff_even_onesCount v⟩

/-! ## Sums and logic in A -/

/-- An instruction that puts the sum of A and a byte in A, with its flags (00_scope.md R14). -/
theorem sum_of_exec_accept8 {i : Instr} {s : State} {v : Byte} {cin : Bool}
    (h : exec i s = .next (s.accept8 (add8 s.a v cin))) :
    ∃ t, exec i s = .next t ∧ t.a.toNat = (s.a.toNat + v.toNat + cin.toNat) % 256 ∧ SumFlags8 t.f s.a v cin ∧
      t = { s with a := t.a, f := t.f, free := t.free } :=
  ⟨_, h, add8_res_toNat s.a v cin, add8_flags s.freshFlags s.a v cin, rfl⟩

/-- An instruction that puts a logic result in A, with its flags (00_scope.md R17). -/
theorem logic_of_exec_acceptLogic {i : Instr} {s : State} {res : Byte} {half : Bool}
    (h : exec i s = .next (s.acceptLogic res half)) :
    ∃ t, exec i s = .next t ∧ t.a = res ∧ FlagsOfByte t.f res ∧ t.f.h = half ∧ t.f.n = false ∧ t.f.c = false ∧
      t = { s with a := t.a, f := t.f, free := t.free } :=
  ⟨_, h, rfl, .of_sign_zero_parity rfl rfl rfl, rfl, rfl, rfl, rfl⟩

/-- Settles O29: each of the ten forms ends in `accept8` of its sum. -/
theorem addBytes : Obligations.AddBytes := by
  intro s r n d
  simp only [List.forall_mem_cons]
  exact ⟨sum_of_exec_accept8 rfl, sum_of_exec_accept8 rfl, sum_of_exec_accept8 rfl, sum_of_exec_accept8 rfl,
    sum_of_exec_accept8 rfl, sum_of_exec_accept8 rfl, sum_of_exec_accept8 rfl, sum_of_exec_accept8 rfl,
    sum_of_exec_accept8 rfl, sum_of_exec_accept8 rfl, List.forall_mem_nil _⟩

/-- Settles O31: each of the fifteen forms ends in `acceptLogic` of its result. -/
theorem logicBytes : Obligations.LogicBytes := by
  intro s r n d
  simp only [List.forall_mem_cons]
  exact ⟨logic_of_exec_acceptLogic rfl, logic_of_exec_acceptLogic rfl, logic_of_exec_acceptLogic rfl,
    logic_of_exec_acceptLogic rfl, logic_of_exec_acceptLogic rfl, logic_of_exec_acceptLogic rfl,
    logic_of_exec_acceptLogic rfl, logic_of_exec_acceptLogic rfl, logic_of_exec_acceptLogic rfl,
    logic_of_exec_acceptLogic rfl, logic_of_exec_acceptLogic rfl, logic_of_exec_acceptLogic rfl,
    logic_of_exec_acceptLogic rfl, logic_of_exec_acceptLogic rfl, logic_of_exec_acceptLogic rfl,
    List.forall_mem_nil _⟩

/-! ## 16-bit arithmetic (00_scope.md R16) -/

@[simp] theorem State.setHL_hl (s : State) (v : Word) : (s.setHL v).hl = v := mkWord_hiByte_loByte v

@[simp] theorem State.storeFlags_hl (s : State) (g : NamedFlags) : (s.storeFlags g).hl = s.hl := rfl

theorem State.setHL_storeFlags_hl (s : State) (v : Word) (g : NamedFlags) : ((s.setHL v).storeFlags g).hl = v := by
  rw [State.storeFlags_hl, State.setHL_hl]

/-- H and C of a plain ADD are those of the sum without a carry in. -/
theorem sumFlags16_add16 (old f : Flags) (a b : Word) :
    PlainSumFlags16 old (f.withNamed (sumFlags16 old (add16 a b false))) a b := by
  obtain ⟨-, -, half, -, -, carry⟩ := add16_flags f a b false
  exact ⟨half, rfl, carry, rfl, rfl, rfl⟩

theorem addHLSs_spec (s : State) (ss : Pair) :
    ∃ t, exec (.addHLSs ss) s = .next t ∧ t.hl.toNat = (s.hl.toNat + (s.readPair ss).toNat) % 65536 ∧
      PlainSumFlags16 s.f t.f s.hl (s.readPair ss) ∧ t = { s with h := t.h, l := t.l, f := t.f, free := t.free } :=
  ⟨_, rfl, congrArg BitVec.toNat (s.setHL_storeFlags_hl _ _), sumFlags16_add16 s.f s.freshFlags s.hl _, rfl⟩

theorem addIXPp_spec (s : State) (pp : IXPair) :
    ∃ t, exec (.addIXPp pp) s = .next t ∧ t.ix.toNat = (s.ix.toNat + (s.readIXPair pp).toNat) % 65536 ∧
      PlainSumFlags16 s.f t.f s.ix (s.readIXPair pp) ∧ t = { s with ix := t.ix, f := t.f, free := t.free } :=
  ⟨_, rfl, add16_res_toNat s.ix _ false, sumFlags16_add16 s.f s.freshFlags s.ix _, rfl⟩

theorem addIYRr_spec (s : State) (rr : IYPair) :
    ∃ t, exec (.addIYRr rr) s = .next t ∧ t.iy.toNat = (s.iy.toNat + (s.readIYPair rr).toNat) % 65536 ∧
      PlainSumFlags16 s.f t.f s.iy (s.readIYPair rr) ∧ t = { s with iy := t.iy, f := t.f, free := t.free } :=
  ⟨_, rfl, add16_res_toNat s.iy _ false, sumFlags16_add16 s.f s.freshFlags s.iy _, rfl⟩

theorem adcHLSs_spec (s : State) (ss : Pair) :
    ∃ t, exec (.adcHLSs ss) s = .next t ∧
      t.hl.toNat = (s.hl.toNat + (s.readPair ss).toNat + s.f.c.toNat) % 65536 ∧
      SumFlags16 t.f s.hl (s.readPair ss) s.f.c ∧ t = { s with h := t.h, l := t.l, f := t.f, free := t.free } :=
  ⟨_, rfl, congrArg BitVec.toNat (s.setHL_storeFlags_hl _ _), add16_flags s.freshFlags s.hl _ s.f.c, rfl⟩

theorem sbcHLSs_spec (s : State) (ss : Pair) :
    ∃ t, exec (.sbcHLSs ss) s = .next t ∧
      (t.hl.toNat : Int) = ((s.hl.toNat : Int) - (s.readPair ss).toNat - s.f.c.toNat) % 65536 ∧
      DifferenceFlags16 t.f s.hl (s.readPair ss) s.f.c ∧
      t = { s with h := t.h, l := t.l, f := t.f, free := t.free } := by
  refine ⟨_, rfl, ?_, sub16_flags s.freshFlags s.hl _ s.f.c, rfl⟩
  rw [State.setHL_storeFlags_hl, sub16_res_toNat]

/-- Settles O36: the pairs of each list are the operands of their form. -/
theorem addPairs : Obligations.AddPairs := by
  intro s
  simp only [List.forall_mem_cons]
  exact ⟨⟨addHLSs_spec s .bc, addHLSs_spec s .de, addHLSs_spec s .hl, addHLSs_spec s .sp, List.forall_mem_nil _⟩,
    ⟨addIXPp_spec s .bc, addIXPp_spec s .de, addIXPp_spec s .ix, addIXPp_spec s .sp, List.forall_mem_nil _⟩,
    ⟨addIYRr_spec s .bc, addIYRr_spec s .de, addIYRr_spec s .iy, addIYRr_spec s .sp, List.forall_mem_nil _⟩⟩

/-- Settles O37: the four pairs are the operands of both forms. -/
theorem addSubtractWithCarryHL : Obligations.AddSubtractWithCarryHL := by
  intro s
  simp only [List.forall_mem_cons]
  have both (ss : Pair) := And.intro (adcHLSs_spec s ss) (sbcHLSs_spec s ss)
  exact ⟨both .bc, both .de, both .hl, both .sp, List.forall_mem_nil _⟩

end Sys2Proof.Machine
end

section
/-! SUPPORT AND PROOFS. File 41 of the spec: BIT, CALL, CCF, the block searches and CPL, with the RST, NEG and SCF of
files 47 to 49. -/

namespace Sys2Proof.Machine

/-! ## BIT -/

/-- An instruction that writes the flags of BIT for bit `b` of a byte (41 R230). -/
theorem bitTest_of_exec_bitFlags {i : Instr} {s : State} {v : Byte} {b : BitVec 3}
    (h : exec i s = .next (s.bitFlags (testBit v b))) :
    ∃ t, exec i s = .next t ∧ t.f.z = !v.getLsbD b.toNat ∧ t.f.h = true ∧ t.f.n = false ∧ t.f.c = s.f.c ∧
      t = { s with f := t.f, free := t.free } :=
  ⟨_, h, rfl, rfl, rfl, rfl, rfl⟩

/-- Settles O42: each of the four forms ends in `bitFlags` of the tested bit. -/
theorem bitTest : Obligations.BitTest := by
  intro s b r d
  simp only [List.forall_mem_cons]
  exact ⟨bitTest_of_exec_bitFlags rfl, bitTest_of_exec_bitFlags rfl, bitTest_of_exec_bitFlags rfl,
    bitTest_of_exec_bitFlags rfl, List.forall_mem_nil _⟩

/-! ## CALL and RST -/

/-- The table of the conditions lists `condHolds` (00_scope.md R20). -/
theorem condHolds_of_mem_conditionTable (f : Flags) : ∀ y ∈ conditionTable f, condHolds f y.1 = y.2 := by
  unfold conditionTable
  simp only [List.forall_mem_cons]
  exact ⟨rfl, rfl, rfl, rfl, rfl, rfl, rfl, rfl, List.forall_mem_nil _⟩

/-- An instruction that enters `target` when `taken` holds, and else does nothing. -/
theorem call_of_exec_enter {i : Instr} {s : State} {taken : Bool} {target : Word} (hs : Memory.wf s.mem = true)
    (h : exec i s = .next (if taken = true then s.enter target else s)) :
    (taken = true → ∃ t, exec i s = .next t ∧ StoresWord s t (s.sp - 2#16) s.pc ∧
      t = { s with mem := t.mem, sp := s.sp - 2#16, pc := target }) ∧
    (taken = false → exec i s = .next s) := by
  obtain ⟨stored, frame⟩ := State.enter_spec target hs
  cases taken with
  | true => exact ⟨fun _ => ⟨_, h, stored, frame⟩, nofun⟩
  | false => exact ⟨nofun, fun _ => h⟩

/-- Settles O58: CALL nn and RST p always enter their target, CALL cc,nn when `condHolds`. -/
theorem calls : Obligations.Calls := by
  intro s nn p hs
  rw [List.forall_mem_append, List.forall_mem_cons, List.forall_mem_singleton, List.forall_mem_map]
  refine ⟨⟨call_of_exec_enter hs rfl, call_of_exec_enter hs rfl⟩, fun y hy => call_of_exec_enter hs ?_⟩
  rw [← condHolds_of_mem_conditionTable s.f y hy]
  rfl

/-! ## Differences without a borrow in -/

theorem isZero_sub_one_iff {w : Nat} (v : BitVec w) : isZero (v - 1#w) = true ↔ v = 1#w := by
  rw [isZero_iff_eq_zero, BitVec.sub_eq_iff_eq_add, BitVec.zero_add]

/-- S, Z and H of `a - b` (00_scope.md R15). -/
theorem sub8_sign_zero_half (a b : Byte) :
    ((sub8 a b false).flags.s = true ↔ 128 ≤ ((a.toNat : Int) - b.toNat) % 256) ∧
    ((sub8 a b false).flags.z = true ↔ a = b) ∧
    ((sub8 a b false).flags.h = true ↔ a.toNat % 16 < b.toNat % 16) := by
  obtain ⟨sign, zero, half, -⟩ := sub8_flags (Flags.ofByte 0#8) a b false
  have ha := a.isLt
  have hb := b.isLt
  simp only [Bool.toNat_false, Nat.cast_zero, sub_zero, Nat.add_zero] at sign zero half
  refine ⟨sign, zero.trans ?_, half⟩
  rw [BitVec.toNat_eq]
  omega

/-! ## The block searches (41 R242 to R245) -/

@[simp] theorem State.setBC_bc (s : State) (v : Word) : (s.setBC v).bc = v := mkWord_hiByte_loByte v

@[simp] theorem State.blockCompare_hl (s : State) (delta : Word) : (s.blockCompare delta).hl = s.hl + delta :=
  s.setHL_hl _

@[simp] theorem State.blockCompare_bc (s : State) (delta : Word) : (s.blockCompare delta).bc = s.bc - 1#16 :=
  (s.setHL (s.hl + delta)).setBC_bc _

theorem State.searchGoesOn_iff (s : State) : s.searchGoesOn = true ↔ s.bc ≠ 1#16 ∧ s.a ≠ s.atHL := by
  obtain ⟨-, found, -⟩ := sub8_sign_zero_half s.a s.atHL
  simp only [State.searchGoesOn, State.blockDifference, Bool.and_eq_true, Bool.not_eq_true', ← Bool.not_eq_true,
    isZero_sub_one_iff, found, ne_eq]

/-- An instruction that compares once, and goes back by 2 if it is a repeating form (`again`) and the search goes on. -/
theorem search_of_exec_blockCompare {i : Instr} {s : State} {delta : Word} {again : Bool}
    (h : exec i s = .next ((s.blockCompare delta).repeatIf (again && s.searchGoesOn))) :
    ∃ t v, exec i s = .next t ∧ v = s.read8 s.hl ∧ t.hl = s.hl + delta ∧ t.bc = s.bc - 1#16 ∧
      t.pc = (if again = true ∧ s.bc ≠ 1#16 ∧ s.a ≠ v then s.pc - 2#16 else s.pc) ∧
      (t.f.s = true ↔ 128 ≤ ((s.a.toNat : Int) - v.toNat) % 256) ∧ (t.f.z = true ↔ s.a = v) ∧
      (t.f.h = true ↔ s.a.toNat % 16 < v.toNat % 16) ∧ (t.f.pv = true ↔ s.bc ≠ 1#16) ∧ t.f.n = true ∧
      t.f.c = s.f.c ∧
      t = { s with b := t.b, c := t.c, h := t.h, l := t.l, pc := t.pc, f := t.f, free := t.free } := by
  obtain ⟨sign, zero, half⟩ := sub8_sign_zero_half s.a s.atHL
  have goesBack : (again && s.searchGoesOn) = true ↔ again = true ∧ s.bc ≠ 1#16 ∧ s.a ≠ s.atHL := by
    rw [Bool.and_eq_true, s.searchGoesOn_iff]
  have notDone : (!isZero (s.bc - 1#16)) = true ↔ s.bc ≠ 1#16 := by
    rw [Bool.not_eq_true', ← Bool.not_eq_true, isZero_sub_one_iff]
  exact ⟨_, s.atHL, h, rfl, s.blockCompare_hl delta, s.blockCompare_bc delta, if_congr goesBack rfl rfl, sign, zero,
    half, notDone, rfl, rfl, rfl⟩

/-- Settles O53: CPI and CPD compare once and never go back, CPIR and CPDR go back while the search goes on. -/
theorem blockSearch : Obligations.BlockSearch := by
  intro s
  rw [List.forall_mem_cons, List.forall_mem_cons, List.forall_mem_cons, List.forall_mem_singleton]
  exact ⟨search_of_exec_blockCompare rfl, search_of_exec_blockCompare rfl, search_of_exec_blockCompare rfl,
    search_of_exec_blockCompare rfl⟩

/-! ## CPL and NEG -/

theorem cpl_spec (s : State) :
    ∃ t, exec .cpl s = .next t ∧ (∀ k < 8, t.a.getLsbD k = !s.a.getLsbD k) ∧
      t.f.named = { s.f.named with h := true, n := true } ∧ t = { s with a := t.a, f := t.f, free := t.free } := by
  refine ⟨_, rfl, fun k hk => ?_, Flags.withNamed_named _ _, rfl⟩
  exact BitVec.getLsbD_not.trans (by simp [hk])

/-- The difference `0 - a` overflows from -128 alone, and borrows unless `a` is 0 (00_scope.md R15). -/
theorem sub8_zero_overflow_borrow (a : Byte) :
    ((sub8 0#8 a false).flags.pv = true ↔ a = 0x80#8) ∧ ((sub8 0#8 a false).flags.c = true ↔ a ≠ 0#8) := by
  obtain ⟨-, -, -, overflow, -, borrow⟩ := sub8_flags (Flags.ofByte 0#8) 0#8 a false
  have ha := a.isLt
  refine ⟨overflow.trans ?_, borrow.trans ?_⟩
  · rw [BitVec.toInt_eq_toNat_cond a, BitVec.toNat_eq, BitVec.toInt_zero, BitVec.toNat_ofNat, Bool.toNat_false]
    omega
  · rw [ne_eq, BitVec.toNat_eq, BitVec.toNat_zero, Bool.toNat_false]
    omega

theorem sub8_zero_res_toNat (a : Byte) : (sub8 0#8 a false).res.toNat = (256 - a.toNat) % 256 := by
  have hres := sub8_res_toNat 0#8 a false
  have ha := a.isLt
  rw [BitVec.toNat_zero, Bool.toNat_false] at hres
  omega

theorem neg_spec (s : State) :
    ∃ t, exec .neg s = .next t ∧ t.a.toNat = (256 - s.a.toNat) % 256 ∧ t.f.s = t.a.getLsbD 7 ∧
      (t.f.z = true ↔ s.a = 0x00#8) ∧ (t.f.h = true ↔ s.a.toNat % 16 ≠ 0) ∧ (t.f.pv = true ↔ s.a = 0x80#8) ∧
      t.f.n = true ∧ (t.f.c = true ↔ s.a ≠ 0x00#8) ∧ t = { s with a := t.a, f := t.f, free := t.free } := by
  obtain ⟨-, zero, half⟩ := sub8_sign_zero_half 0#8 s.a
  obtain ⟨overflow, borrow⟩ := sub8_zero_overflow_borrow s.a
  exact ⟨_, rfl, sub8_zero_res_toNat s.a, rfl, zero.trans eq_comm, half.trans Nat.pos_iff_ne_zero, overflow, rfl,
    borrow, rfl⟩

/-- Settles O33: `cpl_spec` and `neg_spec`; CCF and SCF write the flags as they stand in the statement. -/
theorem complementNegateAndCarry : Obligations.ComplementNegateAndCarry :=
  ⟨rfl, rfl, rfl, rfl, fun s => ⟨rfl, rfl, rfl, rfl, cpl_spec s, ⟨_, rfl, Flags.withNamed_named _ _, rfl⟩,
    ⟨_, rfl, Flags.withNamed_named _ _, rfl⟩, neg_spec s⟩⟩

end Sys2Proof.Machine
end

section
/-! SUPPORT AND PROOFS. File 42 of the spec: DAA and decimal arithmetic, EI, and the exchanges. -/

namespace Sys2Proof.Machine

/-! ## DAA (42 R270) -/

theorem hiNibble_toNat (v : Byte) : (hiNibble v).toNat = v.toNat / 16 := by
  have hv := v.isLt
  rw [hiNibble, BitVec.extractLsb'_toNat, Nat.shiftRight_eq_div_pow]
  omega

theorem loNibble_toNat (v : Byte) : (loNibble v).toNat = v.toNat % 16 := by
  rw [loNibble, BitVec.extractLsb'_toNat, Nat.shiftRight_zero]

/-- The flags N, C and H and the two digits of A lie in the columns of the row (42 R270). -/
structure DaaRow.Covers (row : DaaRow) (n c h : Bool) (a : Byte) : Prop where
  n_eq : row.n = n
  c_eq : row.c = c
  h_eq : row.h = h
  hiFrom_le : row.hiFrom ≤ a.toNat / 16
  le_hiTo : a.toNat / 16 ≤ row.hiTo
  loFrom_le : row.loFrom ≤ a.toNat % 16
  le_loTo : a.toNat % 16 ≤ row.loTo

theorem daaMatches_iff_covers (row : DaaRow) (n c h : Bool) (a : Byte) :
    daaMatches row n c h a = true ↔ row.Covers n c h a := by
  simp only [daaMatches, hiNibble_toNat, loNibble_toNat, Bool.and_eq_true, beq_iff_eq, Nat.ble_eq]
  constructor
  · rintro ⟨⟨⟨⟨⟨⟨hn, hc⟩, hh⟩, hi⟩, hi'⟩, lo⟩, lo'⟩
    exact ⟨hn, hc, hh, hi, hi', lo, lo'⟩
  · rintro ⟨hn, hc, hh, hi, hi', lo, lo'⟩
    exact ⟨⟨⟨⟨⟨⟨hn, hc⟩, hh⟩, hi⟩, hi'⟩, lo⟩, lo'⟩

/-- Two rows that differ in a flag column, or have disjoint ranges of a digit. -/
def DaaRow.Apart (row other : DaaRow) : Prop :=
  row.n ≠ other.n ∨ row.c ≠ other.c ∨ row.h ≠ other.h ∨ row.hiTo < other.hiFrom ∨ other.hiTo < row.hiFrom ∨
    row.loTo < other.loFrom ∨ other.loTo < row.loFrom

theorem DaaRow.Apart.not_covers {row other : DaaRow} {n c h : Bool} {a : Byte} (apart : row.Apart other)
    (covers : row.Covers n c h a) : ¬ other.Covers n c h a := by
  rintro ⟨hn, hc, hh, hi, hi', lo, lo'⟩
  obtain ⟨rfl, rfl, rfl, gi, gi', go, go'⟩ := covers
  rcases apart with hne | hne | hne | hlt | hlt | hlt | hlt
  · exact hne hn.symm
  · exact hne hc.symm
  · exact hne hh.symm
  all_goals omega

/-- No two rows of the table overlap. -/
theorem daaTable_apart : ∀ row ∈ daaTable, ∀ other ∈ daaTable, row = other ∨ row.Apart other := by
  unfold DaaRow.Apart
  decide

/-- The row that covers a state is the one the search finds. -/
theorem daaRow_of_covers {row : DaaRow} {n c h : Bool} {a : Byte} (hrow : row ∈ daaTable)
    (covers : row.Covers n c h a) : daaRow n c h a = some row := by
  have hmatch := (daaMatches_iff_covers row n c h a).mpr covers
  cases hfound : daaRow n c h a with
  | none => exact absurd hmatch (List.find?_eq_none.mp hfound row hrow)
  | some found =>
    have found_matches : daaMatches found n c h a = true := List.find?_some (p := (daaMatches · n c h a)) hfound
    rcases daaTable_apart row hrow found (List.mem_of_find?_eq_some hfound) with rfl | apart
    · rfl
    · exact absurd ((daaMatches_iff_covers found n c h a).mp found_matches) (apart.not_covers covers)

theorem exec_daa_of_covers {s : State} {row : DaaRow} (hrow : row ∈ daaTable)
    (covers : row.Covers s.f.n s.f.c s.f.h s.a) :
    exec .daa s = .next (s.acceptDaa (s.a + row.add) row.carry) := by
  show execDaa s = _
  rw [execDaa, daaRow_of_covers hrow covers]

/-- What DAA does in every state: both ends of it are an `acceptDaa`. -/
theorem exec_daa_flags_frame (s : State) :
    ∃ t, exec .daa s = .next t ∧ FlagsOfByte t.f t.a ∧ t.f.n = s.f.n ∧
      t = { s with a := t.a, f := t.f, free := t.free } := by
  show ∃ t, execDaa s = .next t ∧ _
  unfold execDaa
  split <;> exact ⟨_, rfl, .of_sign_zero_parity rfl rfl rfl, rfl, rfl⟩

/-- A row as the tuple of its columns. -/
def DaaRow.columns (row : DaaRow) : Bool × Bool × Nat × Nat × Bool × Nat × Nat × Byte × Bool :=
  (row.n, row.c, row.hiFrom, row.hiTo, row.h, row.loFrom, row.loTo, row.add, row.carry)

/-- Settles O34: the rows of the statement are the columns of `daaTable`. -/
theorem decimalAdjust : Obligations.DecimalAdjust := by
  intro s
  obtain ⟨t, ht, flags, hn, frame⟩ := exec_daa_flags_frame s
  refine ⟨t, ht, flags, hn, frame, (List.forall_mem_map (f := DaaRow.columns) (l := daaTable)).mpr fun row hrow => ?_⟩
  intro hn hc hi hi' hh lo lo'
  have adjusted := exec_daa_of_covers hrow ⟨hn.symm, hc.symm, hh.symm, hi, hi', lo, lo'⟩
  cases ht.symm.trans adjusted
  exact ⟨rfl, rfl⟩

/-! ## Decimal arithmetic (42 R270)

Each sum or difference of two packed decimal bytes falls in one row of the table. C and H of the sum, and whether the
digits of the sum exceed 9, select the row. -/

theorem IsBcd.digits {n : Nat} {v : Byte} (h : IsBcd n v) :
    ∃ p q, p ≤ 9 ∧ q ≤ 9 ∧ n = 10 * p + q ∧ v.toNat = 16 * p + q := by
  obtain ⟨hn, hv⟩ := h
  exact ⟨n / 10, n % 10, by omega⟩

theorem IsBcd.of_digits {p q : Nat} {v : Byte} (hp : p ≤ 9) (hq : q ≤ 9) (hv : v.toNat = 16 * p + q) :
    IsBcd (10 * p + q) v :=
  ⟨by omega, by omega⟩

/-- DAA in the state `t` leaves `n` as packed decimal in A, and C says whether `carry` holds. -/
def AdjustsTo (t : State) (n : Nat) (carry : Prop) : Prop :=
  ∃ u, exec .daa t = .next u ∧ IsBcd n u.a ∧ (u.f.c = true ↔ carry)

/-- Row `i` of the table, counted from 0, decides what DAA leaves in a state it covers; `x` and `y` are the digits of A
after. -/
theorem adjustsTo_of_row {t : State} {m : Nat} {carry : Prop} {row : DaaRow} (i x y : Nat)
    (hrow : daaTable[i]? = some row) (flags : t.f.n = row.n ∧ t.f.c = row.c ∧ t.f.h = row.h)
    (hcarry : row.carry = true ↔ carry)
    (digits : (row.hiFrom ≤ t.a.toNat / 16 ∧ t.a.toNat / 16 ≤ row.hiTo) ∧
      (row.loFrom ≤ t.a.toNat % 16 ∧ t.a.toNat % 16 ≤ row.loTo) ∧
      (x ≤ 9 ∧ y ≤ 9 ∧ m = 10 * x + y) ∧ (t.a.toNat + row.add.toNat) % 256 = 16 * x + y) : AdjustsTo t m carry := by
  obtain ⟨hn, hc, hh⟩ := flags
  obtain ⟨⟨hi, hi'⟩, ⟨lo, lo'⟩, ⟨hx, hy, rfl⟩, hadd⟩ := digits
  have hexec := exec_daa_of_covers (List.mem_of_getElem? hrow) ⟨hn.symm, hc.symm, hh.symm, hi, hi', lo, lo'⟩
  exact ⟨_, hexec, .of_digits hx hy ((BitVec.toNat_add ..).trans hadd), hcarry⟩

/-- DAA after the sum of the digits `hi` and `lo`: the first nine rows of the table. -/
theorem adjustsTo_of_digit_sum {t : State} {hi lo : Nat} (hhi : hi ≤ 18) (hlo : lo ≤ 19)
    (ha : t.a.toNat = (16 * hi + lo) % 256) (hn : t.f.n = false) (half : t.f.h = true ↔ 15 < lo)
    (carry : t.f.c = true ↔ 255 < 16 * hi + lo) :
    AdjustsTo t ((10 * hi + lo) % 100) (100 ≤ 10 * hi + lo) := by
  cases hc : t.f.c <;> cases hh : t.f.h <;> simp only [hc, hh, Bool.false_eq_true, true_iff, false_iff] at half carry
  case false.false =>
    by_cases hl : lo ≤ 9
    · by_cases hhi' : hi ≤ 9
      · exact adjustsTo_of_row 0 hi lo rfl ⟨hn, hc, hh⟩ (iff_of_false nofun (by omega))
          (by simp only [BitVec.toNat_ofNat]; omega)
      · exact adjustsTo_of_row 3 (hi - 10) lo rfl ⟨hn, hc, hh⟩ (iff_of_true rfl (by omega))
          (by simp only [BitVec.toNat_ofNat]; omega)
    · by_cases hhi' : hi ≤ 8
      · exact adjustsTo_of_row 1 (hi + 1) (lo - 10) rfl ⟨hn, hc, hh⟩ (iff_of_false nofun (by omega))
          (by simp only [BitVec.toNat_ofNat]; omega)
      · exact adjustsTo_of_row 4 (hi - 9) (lo - 10) rfl ⟨hn, hc, hh⟩ (iff_of_true rfl (by omega))
          (by simp only [BitVec.toNat_ofNat]; omega)
  case false.true =>
    by_cases hhi' : hi ≤ 8
    · exact adjustsTo_of_row 2 (hi + 1) (lo - 10) rfl ⟨hn, hc, hh⟩ (iff_of_false nofun (by omega))
        (by simp only [BitVec.toNat_ofNat]; omega)
    · exact adjustsTo_of_row 5 (hi - 9) (lo - 10) rfl ⟨hn, hc, hh⟩ (iff_of_true rfl (by omega))
        (by simp only [BitVec.toNat_ofNat]; omega)
  case true.false =>
    by_cases hl : lo ≤ 9
    · exact adjustsTo_of_row 6 (hi - 10) lo rfl ⟨hn, hc, hh⟩ (iff_of_true rfl (by omega))
        (by simp only [BitVec.toNat_ofNat]; omega)
    · exact adjustsTo_of_row 7 (hi - 9) (lo - 10) rfl ⟨hn, hc, hh⟩ (iff_of_true rfl (by omega))
        (by simp only [BitVec.toNat_ofNat]; omega)
  case true.true =>
    exact adjustsTo_of_row 8 (hi - 9) (lo - 10) rfl ⟨hn, hc, hh⟩ (iff_of_true rfl (by omega))
      (by simp only [BitVec.toNat_ofNat]; omega)

/-- DAA after the difference of the digits `p`, `q` and the digits `x`, `y`, where `y` counts the borrow in: the last
four rows of the table. -/
theorem adjustsTo_of_digit_difference {t : State} {p q x y : Nat} (hp : p ≤ 9) (hq : q ≤ 9) (hx : x ≤ 9) (hy : y ≤ 10)
    (ha : (t.a.toNat : Int) = (16 * p + q - 16 * x - y : Int) % 256) (hn : t.f.n = true)
    (half : t.f.h = true ↔ q < y) (borrow : t.f.c = true ↔ 16 * p + q < 16 * x + y) :
    AdjustsTo t ((100 + (10 * p + q) - (10 * x + y)) % 100) (10 * p + q < 10 * x + y) := by
  cases hc : t.f.c <;> cases hh : t.f.h <;> simp only [hc, hh, Bool.false_eq_true, true_iff, false_iff] at half borrow
  case false.false =>
    exact adjustsTo_of_row 9 (p - x) (q - y) rfl ⟨hn, hc, hh⟩ (iff_of_false nofun (by omega))
      (by simp only [BitVec.toNat_ofNat]; omega)
  case false.true =>
    exact adjustsTo_of_row 10 (p - x - 1) (q + 10 - y) rfl ⟨hn, hc, hh⟩ (iff_of_false nofun (by omega))
      (by simp only [BitVec.toNat_ofNat]; omega)
  case true.false =>
    exact adjustsTo_of_row 11 (p + 10 - x) (q - y) rfl ⟨hn, hc, hh⟩ (iff_of_true rfl (by omega))
      (by simp only [BitVec.toNat_ofNat]; omega)
  case true.true =>
    exact adjustsTo_of_row 12 (p + 9 - x) (q + 10 - y) rfl ⟨hn, hc, hh⟩ (iff_of_true rfl (by omega))
      (by simp only [BitVec.toNat_ofNat]; omega)

/-- DAA after the sum of two packed decimal bytes. -/
theorem adjustsTo_of_sum {t : State} {m k : Nat} {a v : Byte} {cin : Bool} (ha : IsBcd m a) (hv : IsBcd k v)
    (hsum : t.a.toNat = (a.toNat + v.toNat + cin.toNat) % 256) (hflags : SumFlags8 t.f a v cin) :
    AdjustsTo t ((m + k + cin.toNat) % 100) (100 ≤ m + k + cin.toNat) := by
  obtain ⟨p, q, hp, hq, rfl, ha⟩ := ha.digits
  obtain ⟨x, y, hx, hy, rfl, hv⟩ := hv.digits
  obtain ⟨-, -, half, -, hn, carry⟩ := hflags
  have hcin := cin.toNat_le
  have hsum10 : 10 * p + q + (10 * x + y) + cin.toNat = 10 * (p + x) + (q + y + cin.toNat) := by omega
  rw [hsum10]
  exact adjustsTo_of_digit_sum (by omega) (by omega) (by omega) hn (half.trans (by omega)) (carry.trans (by omega))

/-- DAA after the difference of two packed decimal bytes. -/
theorem adjustsTo_of_difference {t : State} {m k : Nat} {a v : Byte} {cin : Bool} (ha : IsBcd m a) (hv : IsBcd k v)
    (hdiff : (t.a.toNat : Int) = ((a.toNat : Int) - v.toNat - cin.toNat) % 256)
    (hflags : DifferenceFlags8 t.f a v cin) :
    AdjustsTo t ((100 + m - k - cin.toNat) % 100) (m < k + cin.toNat) := by
  obtain ⟨p, q, hp, hq, rfl, ha⟩ := ha.digits
  obtain ⟨x, y, hx, hy, rfl, hv⟩ := hv.digits
  obtain ⟨-, -, half, -, hn, borrow⟩ := hflags
  have hcin := cin.toNat_le
  rw [Nat.sub_sub, Nat.add_assoc (10 * x)]
  exact adjustsTo_of_digit_difference hp hq hx (by omega) (by omega) hn (half.trans (by omega))
    (borrow.trans (by omega))

theorem decimal_sum_of_exec_accept8 {i : Instr} {s : State} {m k : Nat} {v : Byte} {cin : Bool} (ha : IsBcd m s.a)
    (hv : IsBcd k v) (h : exec i s = .next (s.accept8 (add8 s.a v cin))) :
    ∃ t u, exec i s = .next t ∧ exec .daa t = .next u ∧ IsBcd ((m + k + cin.toNat) % 100) u.a ∧
      (u.f.c = true ↔ 100 ≤ m + k + cin.toNat) := by
  obtain ⟨u, adjusted⟩ := adjustsTo_of_sum (t := s.accept8 (add8 s.a v cin)) ha hv (add8_res_toNat s.a v cin)
    (add8_flags s.freshFlags s.a v cin)
  exact ⟨_, u, h, adjusted⟩

theorem decimal_difference_of_exec_accept8 {i : Instr} {s : State} {m k : Nat} {v : Byte} {cin : Bool}
    (ha : IsBcd m s.a) (hv : IsBcd k v) (h : exec i s = .next (s.accept8 (sub8 s.a v cin))) :
    ∃ t u, exec i s = .next t ∧ exec .daa t = .next u ∧ IsBcd ((100 + m - k - cin.toNat) % 100) u.a ∧
      (u.f.c = true ↔ m < k + cin.toNat) := by
  obtain ⟨u, adjusted⟩ := adjustsTo_of_difference (t := s.accept8 (sub8 s.a v cin)) ha hv (sub8_res_toNat s.a v cin)
    (sub8_flags s.freshFlags s.a v cin)
  exact ⟨_, u, h, adjusted⟩

/-- Settles O35: the two sums and the two differences, without and with the carry in. -/
theorem decimalArithmetic : Obligations.DecimalArithmetic := by
  intro s m k v ha hv
  simp only [List.forall_mem_cons]
  exact ⟨⟨decimal_sum_of_exec_accept8 (cin := false) ha hv rfl, decimal_sum_of_exec_accept8 ha hv rfl,
      List.forall_mem_nil _⟩,
    decimal_difference_of_exec_accept8 (cin := false) ha hv rfl, decimal_difference_of_exec_accept8 ha hv rfl,
      List.forall_mem_nil _⟩

/-! ## EI (42 R283) -/

/-- With the hold-off standing, the step with a maskable request and the step without one both go on undisturbed. -/
theorem step_eq_of_holdOff {t : State} (hnmi : t.nmiPending = false) (hshadow : t.eiShadow = true)
    (given : List Byte) (more : List BoundaryInput) :
    step { t with inputs := { reset := false, nmi := false, int := some given } :: more } =
      step { t with inputs := BoundaryInput.quiet :: more } := by
  have held := step_undisturbed (s := { t with inputs := { reset := false, nmi := false, int := some given } :: more })
    ⟨rfl, hnmi, rfl, .inr (.inr hshadow)⟩
  have quiet := step_undisturbed (s := { t with inputs := BoundaryInput.quiet :: more }) ⟨rfl, hnmi, rfl, .inl rfl⟩
  exact held.trans quiet.symm

/-- Settles O17: the step of EI leaves the hold-off and no latched NMI, and `step_eq_of_holdOff` says the rest. -/
theorem eiHoldsOffOneInstruction : Obligations.EiHoldsOffOneInstruction := by
  intro s rest given more hquiet hrun hdecode
  have hstep := step_fetch hquiet hrun
  rw [hdecode, runDecoded_of_exec rfl] at hstep
  obtain ⟨-, hnmi, -, -⟩ := hquiet
  refine ⟨_, hstep, rfl, rfl, rfl, step_eq_of_holdOff ?_ ?_ given more⟩
  · exact hnmi
  · rfl

/-! ## Exchanges (42 R284 to R289) -/

/-- Settles O51: each form stores its register by `exchangeTop`, and takes the old top of the stack. -/
theorem stackExchanges : Obligations.StackExchanges := by
  intro s hs
  have stores (v : Word) := s.exchangeTop_stores v hs
  refine ⟨⟨_, rfl, (stores s.hl).congr rfl rfl rfl, ?_⟩, ⟨_, rfl, (stores s.ix).congr rfl rfl rfl, rfl⟩,
    ⟨_, rfl, (stores s.iy).congr rfl rfl rfl, rfl⟩⟩
  rw [State.setHL, State.stackTop, State.read16, hiByte_mkWord, loByte_mkWord]
  rfl

/-- Settles O50: encodings, cycles and swaps are read off the model's tables and meanings. -/
theorem registerExchanges : Obligations.RegisterExchanges := by
  refine ⟨rfl, rfl, rfl, ?_, fun s => ⟨rfl, rfl, rfl, rfl, rfl, rfl⟩⟩
  rw [List.forall_mem_cons, List.forall_mem_singleton]
  exact ⟨fun _ => rfl, fun _ => rfl⟩

end Sys2Proof.Machine
end

section
/-! SUPPORT AND PROOFS. File 43 of the spec: INC and the input instructions, with the DEC of file 42 and the OUT of
file 47. -/

namespace Sys2Proof.Machine

/-! ## Registers behind the shared operations -/

@[simp] theorem State.storeFlags_readReg (s : State) (g : NamedFlags) (q : Reg) :
    (s.storeFlags g).readReg q = s.readReg q := by
  cases q <;> rfl

@[simp] theorem State.afterIoRead_readReg (s : State) (x : Word) (q : Reg) :
    (s.afterIoRead x).readReg q = s.readReg q := by
  cases q <;> rfl

/-- A register write with flags changes that register and the flags. -/
theorem State.writeReg_storeFlags_spec {s t : State} {r : Reg} {v : Byte} {g : NamedFlags}
    (ht : t = (s.writeReg r v).storeFlags g) :
    WritesReg s t r v ∧ t = { s.withRegsOf t with f := t.f, free := t.free } := by
  subst ht
  obtain ⟨writes, -⟩ := s.writeReg_spec r v
  refine ⟨writes.congr (State.storeFlags_readReg _ g), ?_⟩
  cases r <;> rfl

/-! ## INC and DEC of a byte (00_scope.md R23) -/

theorem toNat_beq_iff_eq_ofNat {w n : Nat} (v : BitVec w) (hn : n < 2 ^ w) :
    (v.toNat == n) = true ↔ v = BitVec.ofNat w n := by
  rw [beq_iff_eq, BitVec.toNat_eq, BitVec.toNat_ofNat, Nat.mod_eq_of_lt hn]

theorem inc8_flags (old f : Flags) (v : Byte) : IncFlags old (f.withNamed (inc8 v old.c).flags) v := by
  have sign := msb_iff_half_le (m := 128) rfl (v + 1#8)
  have zero : isZero (v + 1#8) = true ↔ v = 0xFF#8 := by
    rw [isZero_iff_eq_zero]
    bv_omega
  exact ⟨sign, zero, beq_iff_eq, toNat_beq_iff_eq_ofNat v (by decide), rfl, rfl⟩

theorem dec8_flags (old f : Flags) (v : Byte) : DecFlags old (f.withNamed (dec8 v old.c).flags) v := by
  have sign := msb_iff_half_le (m := 128) rfl (v - 1#8)
  rw [BitVec.toNat_sub, Nat.add_comm] at sign
  exact ⟨sign, isZero_sub_one_iff v, beq_iff_eq, toNat_beq_iff_eq_ofNat v (by decide), rfl, rfl⟩

theorem incR_spec (s : State) (r : Reg) :
    ∃ t, exec (.incR r) s = .next t ∧ WritesReg s t r (s.readReg r + 1#8) ∧ IncFlags s.f t.f (s.readReg r) ∧
      t = { s.withRegsOf t with f := t.f, free := t.free } := by
  obtain ⟨writes, frame⟩ := State.writeReg_storeFlags_spec (t := s.acceptReg r (inc8 (s.readReg r) s.f.c)) rfl
  exact ⟨_, rfl, writes, inc8_flags s.f _ _, frame⟩

theorem decR_spec (s : State) (r : Reg) :
    ∃ t, exec (.decR r) s = .next t ∧ WritesReg s t r (s.readReg r - 1#8) ∧ DecFlags s.f t.f (s.readReg r) ∧
      t = { s.withRegsOf t with f := t.f, free := t.free } := by
  obtain ⟨writes, frame⟩ := State.writeReg_storeFlags_spec (t := s.acceptReg r (dec8 (s.readReg r) s.f.c)) rfl
  exact ⟨_, rfl, writes, dec8_flags s.f _ _, frame⟩

/-- The end of a read-modify-write stores its byte. -/
theorem State.acceptMem_stores {s : State} (x : Word) (y : Result8) (hs : Memory.wf s.mem = true) :
    StoresByte s (s.acceptMem x y) x y.res :=
  (State.write8_stores x y.res hs).congr rfl rfl rfl

/-- An instruction that counts the byte at `x` up. -/
theorem inc_of_exec_acceptMem {i : Instr} {s : State} {x : Word} (hs : Memory.wf s.mem = true)
    (h : exec i s = .next (s.acceptMem x (inc8 (s.read8 x) s.f.c))) :
    ∃ t, exec i s = .next t ∧ StoresByte s t x (s.read8 x + 1#8) ∧ IncFlags s.f t.f (s.read8 x) ∧
      t = { s with mem := t.mem, f := t.f, free := t.free } :=
  ⟨_, h, State.acceptMem_stores x _ hs, inc8_flags s.f _ _, rfl⟩

/-- An instruction that counts the byte at `x` down. -/
theorem dec_of_exec_acceptMem {i : Instr} {s : State} {x : Word} (hs : Memory.wf s.mem = true)
    (h : exec i s = .next (s.acceptMem x (dec8 (s.read8 x) s.f.c))) :
    ∃ t, exec i s = .next t ∧ StoresByte s t x (s.read8 x - 1#8) ∧ DecFlags s.f t.f (s.read8 x) ∧
      t = { s with mem := t.mem, f := t.f, free := t.free } :=
  ⟨_, h, State.acceptMem_stores x _ hs, dec8_flags s.f _ _, rfl⟩

/-- Settles O32: a register form ends in a register write with flags, and each of the three memory forms in `acceptMem`
at its address. -/
theorem incDecBytes : Obligations.IncDecBytes := by
  refine ⟨fun s r => ⟨incR_spec s r, decR_spec s r⟩, fun s d hs => ?_⟩
  simp only [List.forall_mem_cons]
  exact ⟨⟨inc_of_exec_acceptMem hs rfl, inc_of_exec_acceptMem hs rfl, inc_of_exec_acceptMem hs rfl,
      List.forall_mem_nil _⟩,
    ⟨dec_of_exec_acceptMem hs rfl, dec_of_exec_acceptMem hs rfl, dec_of_exec_acceptMem hs rfl,
      List.forall_mem_nil _⟩⟩

/-! ## INC and DEC of a pair -/

/-- Settles O38: INC ss and DEC ss are one `writePair`; the IX and IY forms write their register as it stands in the
statement. -/
theorem incDecPairs : Obligations.IncDecPairs := fun s =>
  ⟨fun ss => ⟨_, rfl, s.writePair_spec ss _⟩, fun ss => ⟨_, rfl, s.writePair_spec ss _⟩, rfl, rfl, rfl, rfl⟩

/-! ## Port reads and writes (20_memory.md R81, R86) -/

theorem inAN_spec (s : State) (n : Byte) :
    ∃ t, exec (.inAN n) s = .next t ∧ (∀ v, s.presents (mkWord s.a n) v → t.a = v) ∧
      t = { s with a := t.a, bus := .ioRead (mkWord s.a n) t.a :: s.bus, ioSpace := s.ioSpaceAfterRead,
                   free := t.free } := by
  refine ⟨_, rfl, fun _ => State.portByte_of_presents, ?_⟩
  rw [State.ioSpaceAfterRead_eq]
  rfl

/-- The register write of IN r,(C) comes behind the port read, which leaves the registers (43 R305). -/
theorem inRC_spec (s : State) (r : Reg) :
    ∃ t v, exec (.inRC r) s = .next t ∧ (∀ w, s.presents (mkWord s.b s.c) w → v = w) ∧ WritesReg s t r v ∧
      FlagsOfByte t.f v ∧ t.f.h = false ∧ t.f.n = false ∧ t.f.c = s.f.c ∧
      t = { s.withRegsOf t with f := t.f, bus := .ioRead (mkWord s.b s.c) v :: s.bus,
                                ioSpace := s.ioSpaceAfterRead, free := t.free } := by
  obtain ⟨⟨written, others⟩, frame⟩ := State.writeReg_storeFlags_spec
    (t := (s.afterIoRead s.portBC).acceptInput r (s.portByte s.portBC)) rfl
  refine ⟨_, _, rfl, fun _ => State.portByte_of_presents,
    ⟨written, fun q hq => (others q hq).trans (s.afterIoRead_readReg _ q)⟩, .of_sign_zero_parity rfl rfl rfl, rfl, rfl,
    rfl, frame.trans ?_⟩
  rw [State.ioSpaceAfterRead_eq]
  rfl

/-- Settles O54: `inAN_spec` and `inRC_spec`; the OUT forms log their write as it stands in the statement. -/
theorem portAccess : Obligations.PortAccess := fun s n r => ⟨inAN_spec s n, inRC_spec s r, rfl, rfl⟩

/-! ## The block inputs (43 R313 to R316) -/

@[simp] theorem State.blockIoEnd_hl (s : State) (delta : Word) : (s.blockIoEnd delta).hl = s.hl + delta :=
  State.setHL_hl { s with b := s.b - 1#8 } _

/-- Block input and output go on until B, counted down, is 0. -/
theorem blockIoGoesOn_iff (again : Bool) (b : Byte) :
    (again && !isZero (b - 1#8)) = true ↔ again = true ∧ b ≠ 1#8 := by
  rw [Bool.and_eq_true, Bool.not_eq_true', ← Bool.not_eq_true, isZero_sub_one_iff]

theorem State.blockIn_stores {s : State} (delta : Word) (hs : Memory.wf s.mem = true) :
    StoresByte s (s.blockIn delta) s.hl (s.portByte s.portBC) :=
  (State.write8_stores s.hl (s.portByte s.portBC) hs).congr rfl rfl rfl

/-- A block input changes B, HL, one byte of memory, the flags and what a port read changes. -/
theorem State.blockIn_eq (s : State) (delta : Word) :
    s.blockIn delta =
      { s with b := s.b - 1#8, h := (s.blockIn delta).h, l := (s.blockIn delta).l, mem := (s.blockIn delta).mem,
               f := (s.blockIn delta).f, bus := .ioRead (mkWord s.b s.c) (s.portByte (mkWord s.b s.c)) :: s.bus,
               ioSpace := s.ioSpaceAfterRead, free := (s.blockIn delta).free } := by
  rw [State.ioSpaceAfterRead_eq]
  rfl

/-- An instruction that reads one byte from the port to HL, and goes back by 2 if it is a repeating form (`again`) and B
does not become 0. -/
theorem input_of_exec_blockIn {i : Instr} {s : State} {delta : Word} {again : Bool} (hs : Memory.wf s.mem = true)
    (h : exec i s = .next ((s.blockIn delta).repeatIf (again && !isZero (s.b - 1#8)))) :
    ∃ t v, exec i s = .next t ∧ (∀ w, s.presents (mkWord s.b s.c) w → v = w) ∧ StoresByte s t s.hl v ∧
      t.hl = s.hl + delta ∧ t.pc = (if again = true ∧ s.b ≠ 1#8 then s.pc - 2#16 else s.pc) ∧
      (t.f.z = true ↔ s.b = 1#8) ∧ t.f.n = true ∧ t.f.c = s.f.c ∧
      t = { s with b := s.b - 1#8, h := t.h, l := t.l, mem := t.mem, pc := t.pc, f := t.f,
                   bus := .ioRead (mkWord s.b s.c) v :: s.bus, ioSpace := s.ioSpaceAfterRead, free := t.free } := by
  have hl : (s.blockIn delta).hl = s.hl + delta := State.blockIoEnd_hl _ _
  have frame := congrArg (State.repeatIf · (again && !isZero (s.b - 1#8))) (s.blockIn_eq delta)
  exact ⟨_, s.portByte s.portBC, h, fun _ => State.portByte_of_presents,
    (State.blockIn_stores delta hs).congr rfl rfl rfl, hl, if_congr (blockIoGoesOn_iff again s.b) rfl rfl,
    isZero_sub_one_iff s.b, rfl, rfl, frame⟩

/-- Settles O55: INI and IND read once and never go back, INIR and INDR go back until B is 0. -/
theorem blockInput : Obligations.BlockInput := by
  intro s hs
  rw [List.forall_mem_cons, List.forall_mem_cons, List.forall_mem_cons, List.forall_mem_singleton]
  exact ⟨input_of_exec_blockIn (again := false) hs rfl, input_of_exec_blockIn (again := false) hs rfl,
    input_of_exec_blockIn (again := true) hs rfl, input_of_exec_blockIn (again := true) hs rfl⟩

end Sys2Proof.Machine
end

section
/-! PROOFS. File 44 of the spec: JP and JR, with the DJNZ of file 42. -/

namespace Sys2Proof.Machine

/-- DJNZ does not jump when B, counted down, is 0, that is when B was 1 (42 R279). -/
theorem djnz_spec (s : State) (disp : Byte) :
    exec (.djnz disp) s = .next
      { s with b := s.b - 1#8, pc := if s.b = 1#8 then s.pc else s.pc + disp.signExtend 16 } := by
  have goesOn : (!isZero (s.b - 1#8)) = true ↔ ¬ s.b = 1#8 := by
    rw [Bool.not_eq_true', ← Bool.not_eq_true, isZero_sub_one_iff]
  calc exec (.djnz disp) s
    _ = .next ({ s with b := s.b - 1#8 }.jumpIf (!isZero (s.b - 1#8)) (relTarget s.pc disp)) := rfl
    _ = _ := by simp only [State.jumpIf, relTarget, goesOn, ite_not]

/-- JP cc,nn goes by the row of its condition in the table (44 R343). -/
theorem jpCcNN_of_mem_conditionTable {s : State} {y : Cond × Bool} (hy : y ∈ conditionTable s.f) (nn : Word) :
    exec (.jpCcNN y.1 nn) s = .next { s with pc := if y.2 = true then nn else s.pc } := by
  rw [← condHolds_of_mem_conditionTable s.f y hy]
  rfl

/-- Settles O57: JP and JR end in `jump` or `jumpIf` as they stand in the statement, JP cc,nn by the row of its condition,
DJNZ by `djnz_spec`. -/
theorem jumps : Obligations.Jumps := by
  intro s nn disp
  refine ⟨?_, djnz_spec s disp⟩
  simp only [List.forall_mem_append, List.forall_mem_cons, List.forall_mem_map]
  exact ⟨⟨rfl, rfl, rfl, rfl, rfl, rfl, rfl, rfl, rfl, List.forall_mem_nil _⟩,
    fun _ hy => jpCcNN_of_mem_conditionTable hy nn⟩

end Sys2Proof.Machine
end

section
/-! PROOFS. File 45 of the spec: stores of a byte, the loads of A from I and R and back, and the 16-bit loads, with the
LD (nn),A, LD R,A and LD SP of file 46. -/

namespace Sys2Proof.Machine

/-! ## Stores of a byte -/

/-- An instruction that ends in a one-byte store changes that byte of memory alone (20_memory.md R85). -/
theorem store_of_exec_write8 {i : Instr} {s : State} {x : Word} {v : Byte} (hs : Memory.wf s.mem = true)
    (h : exec i s = .next (s.write8 x v)) :
    ∃ t, exec i s = .next t ∧ StoresByte s t x v ∧ t = { s with mem := t.mem } :=
  ⟨_, h, State.write8_stores x v hs, rfl⟩

/-- Settles O45: each of the nine forms ends in `write8` of its value at its address. -/
theorem storeByteForms : Obligations.StoreByteForms := by
  intro s r n d nn hs
  simp only [List.forall_mem_cons]
  exact ⟨store_of_exec_write8 hs rfl, store_of_exec_write8 hs rfl, store_of_exec_write8 hs rfl,
    store_of_exec_write8 hs rfl, store_of_exec_write8 hs rfl, store_of_exec_write8 hs rfl,
    store_of_exec_write8 hs rfl, store_of_exec_write8 hs rfl, store_of_exec_write8 hs rfl, List.forall_mem_nil _⟩

/-! ## I and R -/

/-- An instruction that loads A from I or R writes the flags of that value, with IFF2 in P/V (45 R363, R365). -/
theorem control_load_of_exec_loadAFromControl {i : Instr} {s : State} {v : Byte}
    (h : exec i s = .next (s.loadAFromControl v)) :
    ∃ t, exec i s = .next t ∧ t.a = v ∧ t.f.s = v.getLsbD 7 ∧ (t.f.z = true ↔ v = 0x00#8) ∧ t.f.h = false ∧
      t.f.pv = s.iff2 ∧ t.f.n = false ∧ t.f.c = s.f.c ∧ t = { s with a := t.a, f := t.f, free := t.free } :=
  ⟨_, h, rfl, rfl, isZero_iff_eq_zero v, rfl, rfl, rfl, rfl, rfl⟩

/-- Settles O46: LD A,I and LD A,R end in `loadAFromControl`; LD I,A and LD R,A write their register as it stands in the
statement. -/
theorem loadControlRegisters : Obligations.LoadControlRegisters := by
  intro s
  rw [List.forall_mem_cons, List.forall_mem_singleton]
  exact ⟨⟨control_load_of_exec_loadAFromControl rfl, control_load_of_exec_loadAFromControl rfl⟩, rfl, rfl⟩

/-! ## 16-bit loads -/

/-- An instruction that ends in a write of a pair changes that pair alone. -/
theorem pair_load_of_exec_writePair {i : Instr} {s : State} {p : Pair} {v : Word}
    (h : exec i s = .next (s.writePair p v)) :
    ∃ t, exec i s = .next t ∧ WritesPair s t p v ∧ t = s.withPairsOf t :=
  ⟨_, h, s.writePair_spec p v⟩

/-- Settles O47: each load of BC, DE, HL or SP ends in a `writePair`; the IX and IY forms write their register as it
stands in the statement. -/
theorem loadPairs : Obligations.LoadPairs := by
  intro s dd nn
  simp only [List.forall_mem_cons]
  exact ⟨⟨pair_load_of_exec_writePair rfl, pair_load_of_exec_writePair rfl, pair_load_of_exec_writePair rfl,
    pair_load_of_exec_writePair rfl, pair_load_of_exec_writePair rfl, pair_load_of_exec_writePair rfl,
    List.forall_mem_nil _⟩, rfl, rfl, rfl, rfl⟩

end Sys2Proof.Machine
end

section
/-! SUPPORT AND PROOFS. File 46 of the spec: the stores of a word, the block transfers, and the loads of an 8-bit
register, with the LD A,(BC), LD A,(DE) and LD A,(nn) of file 45. -/

namespace Sys2Proof.Machine

/-! ## The block transfers (46 R414 to R417) -/

/-- A count that goes down goes on unless it was 1. -/
theorem not_isZero_sub_one {w : Nat} (v : BitVec w) : (!isZero (v - 1#w)) = decide (v ≠ 1#w) := by
  rw [Bool.eq_iff_iff, Bool.not_eq_true', ← Bool.not_eq_true, isZero_sub_one_iff, decide_eq_true_iff]

@[simp] theorem State.setDE_de (s : State) (v : Word) : (s.setDE v).de = v := mkWord_hiByte_loByte v

@[simp] theorem State.blockTransfer_de (s : State) (delta : Word) : (s.blockTransfer delta).de = s.de + delta :=
  (s.write8 s.de s.atHL).setDE_de _

@[simp] theorem State.blockTransfer_hl (s : State) (delta : Word) : (s.blockTransfer delta).hl = s.hl + delta :=
  ((s.write8 s.de s.atHL).setDE (s.de + delta)).setHL_hl _

@[simp] theorem State.blockTransfer_bc (s : State) (delta : Word) : (s.blockTransfer delta).bc = s.bc - 1#16 :=
  (((s.write8 s.de s.atHL).setDE (s.de + delta)).setHL (s.hl + delta)).setBC_bc _

/-- H and N are cleared and P/V says whether the count goes on; S, Z and C stay. -/
theorem State.blockTransfer_named (s : State) (delta : Word) :
    (s.blockTransfer delta).f.named = { s.f.named with h := false, pv := decide (s.bc ≠ 1#16), n := false } := by
  rw [← not_isZero_sub_one]
  rfl

/-- The byte is stored at the old DE, before the pointers step. -/
theorem State.blockTransfer_stores {s : State} (delta : Word) (hs : Memory.wf s.mem = true) :
    StoresByte s (s.blockTransfer delta) s.de (s.read8 s.hl) :=
  (State.write8_stores s.de s.atHL hs).congr rfl rfl rfl

/-- A transfer changes BC, DE, HL, one byte of memory and the flags. -/
theorem State.blockTransfer_frame (s : State) (delta : Word) :
    s.blockTransfer delta =
      { s with b := (s.blockTransfer delta).b, c := (s.blockTransfer delta).c, d := (s.blockTransfer delta).d,
               e := (s.blockTransfer delta).e, h := (s.blockTransfer delta).h, l := (s.blockTransfer delta).l,
               mem := (s.blockTransfer delta).mem, f := (s.blockTransfer delta).f,
               free := (s.blockTransfer delta).free } := by
  rfl

/-- A form that never repeats leaves PC at the next instruction. -/
theorem State.repeatIf_false_and (s : State) (goesOn : Bool) : s.repeatIf (false && goesOn) = s := rfl

/-- An instruction that transfers once, and goes back by 2 if it is a repeating form (`again`) and BC does not become
0. -/
theorem transfer_of_exec_blockTransfer {i : Instr} {s : State} {delta : Word} {again : Bool}
    (hs : Memory.wf s.mem = true)
    (h : exec i s = .next ((s.blockTransfer delta).repeatIf (again && !isZero (s.bc - 1#16)))) :
    ∃ t, exec i s = .next t ∧ StoresByte s t s.de (s.read8 s.hl) ∧ t.de = s.de + delta ∧ t.hl = s.hl + delta ∧
      t.bc = s.bc - 1#16 ∧ t.pc = (if again = true ∧ s.bc ≠ 1#16 then s.pc - 2#16 else s.pc) ∧
      t.f.named = { s.f.named with h := false, pv := decide (s.bc ≠ 1#16), n := false } ∧
      t = { s with b := t.b, c := t.c, d := t.d, e := t.e, h := t.h, l := t.l, mem := t.mem, pc := t.pc, f := t.f,
                   free := t.free } := by
  have goesBack : (again && !isZero (s.bc - 1#16)) = true ↔ again = true ∧ s.bc ≠ 1#16 := by
    rw [not_isZero_sub_one, Bool.and_eq_true, decide_eq_true_iff]
  have frame := congrArg (State.repeatIf · (again && !isZero (s.bc - 1#16))) (s.blockTransfer_frame delta)
  exact ⟨_, h, (State.blockTransfer_stores delta hs).congr rfl rfl rfl, s.blockTransfer_de delta,
    s.blockTransfer_hl delta, s.blockTransfer_bc delta, if_congr goesBack rfl rfl, s.blockTransfer_named delta, frame⟩

/-- Settles O52: LDI and LDD transfer once and never go back, LDIR and LDDR go back until BC is 0. -/
theorem blockTransfer : Obligations.BlockTransfer := by
  intro s hs
  rw [List.forall_mem_cons, List.forall_mem_cons, List.forall_mem_cons, List.forall_mem_singleton]
  have once (delta : Word) := ((s.blockTransfer delta).repeatIf_false_and (!isZero (s.bc - 1#16))).symm
  exact ⟨transfer_of_exec_blockTransfer hs (congrArg _ (once 1#16)),
    transfer_of_exec_blockTransfer hs (congrArg _ (once (-1#16))),
    transfer_of_exec_blockTransfer (again := true) hs rfl, transfer_of_exec_blockTransfer (again := true) hs rfl⟩

/-! ## Stores of a word -/

/-- An instruction that ends in a two-byte store changes those bytes of memory alone (20_memory.md R87). -/
theorem store_of_exec_write16 {i : Instr} {s : State} {x v : Word} (hs : Memory.wf s.mem = true)
    (h : exec i s = .next (s.write16 x v)) :
    ∃ t, exec i s = .next t ∧ StoresWord s t x v ∧ t = { s with mem := t.mem } :=
  ⟨_, h, State.write16_stores x v hs, rfl⟩

/-- Settles O48: each of the seven forms ends in `write16` of its register at nn. -/
theorem storeWordForms : Obligations.StoreWordForms := by
  intro s nn hs
  simp only [List.forall_mem_cons]
  exact ⟨store_of_exec_write16 hs rfl, store_of_exec_write16 hs rfl, store_of_exec_write16 hs rfl,
    store_of_exec_write16 hs rfl, store_of_exec_write16 hs rfl, store_of_exec_write16 hs rfl,
    store_of_exec_write16 hs rfl, List.forall_mem_nil _⟩

/-! ## Loads of an 8-bit register -/

/-- An instruction that ends in a write of a register changes that register alone (45 R360). -/
theorem load_of_exec_writeReg {i : Instr} {s : State} {r : Reg} {v : Byte} (h : exec i s = .next (s.writeReg r v)) :
    ∃ t, exec i s = .next t ∧ WritesReg s t r v ∧ t = s.withRegsOf t :=
  ⟨_, h, s.writeReg_spec r v⟩

/-- Settles O44: each of the eight forms ends in `writeReg` of its value. -/
theorem loadRegister : Obligations.LoadRegister := by
  intro s r q n d nn
  simp only [List.forall_mem_cons]
  exact ⟨load_of_exec_writeReg rfl, load_of_exec_writeReg rfl, load_of_exec_writeReg rfl, load_of_exec_writeReg rfl,
    load_of_exec_writeReg rfl, load_of_exec_writeReg rfl, load_of_exec_writeReg rfl, load_of_exec_writeReg rfl,
    List.forall_mem_nil _⟩

end Sys2Proof.Machine
end

section
/-! SUPPORT AND PROOFS. File 47 of the spec: PUSH and POP, the block outputs and NOP, with the HALT and IM of file 43
and the DI and EI of file 42. -/

namespace Sys2Proof.Machine

/-! ## PUSH and POP (00_scope.md R21) -/

/-- An instruction that ends in a push stores its word below SP and lowers SP by 2. -/
theorem push_of_exec_push16 {i : Instr} {s : State} {v : Word} (hs : Memory.wf s.mem = true)
    (h : exec i s = .next (s.push16 v)) :
    ∃ t, exec i s = .next t ∧ StoresWord s t (s.sp - 2#16) v ∧ t = { s with mem := t.mem, sp := s.sp - 2#16 } :=
  ⟨_, h, State.push16_stores v hs, rfl⟩

@[simp] theorem State.hiByte_stackTop (s : State) : hiByte s.stackTop = s.read8 (s.sp + 1#16) := hiByte_mkWord _ _

@[simp] theorem State.loByte_stackTop (s : State) : loByte s.stackTop = s.read8 s.sp := loByte_mkWord _ _

/-- Settles O49: each PUSH ends in `push16` of its register. A POP of a pair takes the two halves of the top of the
stack apart, and POP IX and POP IY take it whole. -/
theorem pushAndPop : Obligations.PushAndPop := by
  constructor
  · intro s hs
    simp only [List.forall_mem_cons]
    exact ⟨push_of_exec_push16 hs rfl, push_of_exec_push16 hs rfl, push_of_exec_push16 hs rfl,
      push_of_exec_push16 hs rfl, push_of_exec_push16 hs rfl, push_of_exec_push16 hs rfl, List.forall_mem_nil _⟩
  · rintro s _ _ rfl rfl
    refine ⟨?_, ?_, ?_, ?_, rfl, rfl⟩
    all_goals
      rw [← s.hiByte_stackTop, ← s.loByte_stackTop]
      rfl

/-! ## The block outputs (47 R448, R449, R452, R453) -/

/-- An instruction that writes one byte from HL to the port, and goes back by 2 if it is a repeating form (`again`) and
B does not become 0. -/
theorem output_of_exec_blockOut {i : Instr} {s : State} {delta : Word} {again : Bool}
    (h : exec i s = .next ((s.blockOut delta).repeatIf (again && !isZero (s.b - 1#8)))) :
    ∃ t, exec i s = .next t ∧ t.hl = s.hl + delta ∧
      t.pc = (if again = true ∧ s.b ≠ 1#8 then s.pc - 2#16 else s.pc) ∧
      (t.f.z = true ↔ s.b = 1#8) ∧ t.f.n = true ∧ t.f.c = s.f.c ∧
      t = { s with b := s.b - 1#8, h := t.h, l := t.l, pc := t.pc, f := t.f,
                   bus := .ioWrite (mkWord (s.b - 1#8) s.c) (s.read8 s.hl) :: s.bus, free := t.free } := by
  have hl : (s.blockOut delta).hl = s.hl + delta := State.blockIoEnd_hl _ _
  exact ⟨_, h, hl, if_congr (blockIoGoesOn_iff again s.b) rfl rfl, isZero_sub_one_iff s.b, rfl, rfl, rfl⟩

/-- Settles O56: OUTI and OUTD write once and never go back, OTIR and OTDR go back until B is 0. -/
theorem blockOutput : Obligations.BlockOutput := by
  intro s
  rw [List.forall_mem_cons, List.forall_mem_cons, List.forall_mem_cons, List.forall_mem_singleton]
  exact ⟨output_of_exec_blockOut (again := false) rfl, output_of_exec_blockOut (again := false) rfl,
    output_of_exec_blockOut (again := true) rfl, output_of_exec_blockOut (again := true) rfl⟩

/-! ## CPU control -/

/-- Settles O60: each meaning is the update of the statement. -/
theorem cpuControl : Obligations.CpuControl := fun _ => ⟨rfl, rfl, rfl, rfl, rfl, rfl, rfl⟩

end Sys2Proof.Machine
end

section
/-! SUPPORT AND PROOFS. Files 48 and 49 of the spec: the rotates and shifts, RLD and RRD, the returns, SUB and SBC, SET
and RES, with the CP of file 41. -/

namespace Sys2Proof.Machine

/-! ## Rotates and shifts by name (00_scope.md R19) -/

/-- The model's function for each rotate and shift. -/
def ShiftKind.shift (k : ShiftKind) (v : Byte) (c : Bool) : ShiftResult :=
  match k with
  | .rlc => Machine.rlc v
  | .rl => Machine.rl v c
  | .rrc => Machine.rrc v
  | .rr => Machine.rr v c
  | .sla => Machine.sla v
  | .sra => Machine.sra v
  | .srl => Machine.srl v

/-- The bit patterns of the model are the word operations of `ShiftKind.result`. -/
theorem ShiftKind.shift_res (k : ShiftKind) (v : Byte) (c : Bool) : (k.shift v c).res = k.result v c := by
  cases k
  all_goals
    revert v c
    decide

theorem ShiftKind.shift_cout (k : ShiftKind) (v : Byte) (c : Bool) : (k.shift v c).cout = k.carry v := by
  cases k <;> rfl

/-- The flags of a rotate or shift: those of its result, H and N cleared, the bit shifted out in C (00_scope.md R18). -/
theorem ShiftKind.shiftFlags_spec (k : ShiftKind) (f : Flags) (v : Byte) (c : Bool) :
    FlagsOfByte (f.withNamed (shiftFlags (k.shift v c))) (k.result v c) ∧
      (f.withNamed (shiftFlags (k.shift v c))).h = false ∧ (f.withNamed (shiftFlags (k.shift v c))).n = false ∧
      (f.withNamed (shiftFlags (k.shift v c))).c = k.carry v := by
  rw [← k.shift_res v c]
  exact ⟨.of_sign_zero_parity rfl rfl rfl, rfl, rfl, k.shift_cout v c⟩

/-! ## The rotates of A -/

/-- An instruction that rotates A leaves S, Z and P/V. -/
theorem rotate_of_exec_rotateA {i : Instr} {s : State} {k : ShiftKind}
    (h : exec i s = .next (s.rotateA (k.shift s.a s.f.c))) :
    ∃ t, exec i s = .next t ∧ t.a = k.result s.a s.f.c ∧
      t.f.named = { s.f.named with h := false, n := false, c := k.carry s.a } ∧
      t = { s with a := t.a, f := t.f, free := t.free } := by
  refine ⟨_, h, k.shift_res s.a s.f.c, ?_, rfl⟩
  rw [← k.shift_cout s.a s.f.c]
  rfl

/-- Settles O39: each of the four forms ends in `rotateA` of its rotate. -/
theorem rotateAccumulator : Obligations.RotateAccumulator := by
  intro s
  simp only [List.forall_mem_cons]
  exact ⟨rotate_of_exec_rotateA rfl, rotate_of_exec_rotateA rfl, rotate_of_exec_rotateA rfl,
    rotate_of_exec_rotateA rfl, List.forall_mem_nil _⟩

/-! ## The rotates and shifts of a register and of memory -/

/-- An instruction that rotates or shifts a register. -/
theorem shift_of_exec_shiftReg {i : Instr} {s : State} {r : Reg} {k : ShiftKind}
    (h : exec i s = .next (s.shiftReg r (k.shift (s.readReg r) s.f.c))) :
    ∃ t, exec i s = .next t ∧ WritesReg s t r (k.result (s.readReg r) s.f.c) ∧
      FlagsOfByte t.f (k.result (s.readReg r) s.f.c) ∧ t.f.h = false ∧ t.f.n = false ∧
      t.f.c = k.carry (s.readReg r) ∧ t = { s.withRegsOf t with f := t.f, free := t.free } := by
  obtain ⟨writes, frame⟩ := State.writeReg_storeFlags_spec
    (t := s.shiftReg r (k.shift (s.readReg r) s.f.c)) rfl
  rw [k.shift_res] at writes
  obtain ⟨flags, half, subtract, carry⟩ :=
    k.shiftFlags_spec (s.writeReg r (k.shift (s.readReg r) s.f.c).res).freshFlags (s.readReg r) s.f.c
  exact ⟨_, h, writes, flags, half, subtract, carry, frame⟩

/-- An instruction that rotates or shifts the byte at `x`. -/
theorem shift_of_exec_shiftMem {i : Instr} {s : State} {x : Word} {k : ShiftKind} (hs : Memory.wf s.mem = true)
    (h : exec i s = .next (s.shiftMem x (k.shift (s.read8 x) s.f.c))) :
    ∃ t, exec i s = .next t ∧ StoresByte s t x (k.result (s.read8 x) s.f.c) ∧
      FlagsOfByte t.f (k.result (s.read8 x) s.f.c) ∧ t.f.h = false ∧ t.f.n = false ∧
      t.f.c = k.carry (s.read8 x) ∧ t = { s with mem := t.mem, f := t.f, free := t.free } := by
  have stores := State.write8_stores x (k.shift (s.read8 x) s.f.c).res hs
  rw [k.shift_res] at stores
  obtain ⟨flags, half, subtract, carry⟩ := k.shiftFlags_spec s.freshFlags (s.read8 x) s.f.c
  refine ⟨_, h, stores.congr rfl rfl ?_, flags, half, subtract, carry, rfl⟩
  rw [← k.shift_res]
  rfl

/-- Settles O40: each register form ends in `shiftReg` and each memory form in `shiftMem` of its shift. -/
theorem rotatesAndShifts : Obligations.RotatesAndShifts := by
  refine ⟨fun s r => ?_, fun s d hs => ?_⟩
  · simp only [List.forall_mem_cons]
    exact ⟨shift_of_exec_shiftReg rfl, shift_of_exec_shiftReg rfl, shift_of_exec_shiftReg rfl,
      shift_of_exec_shiftReg rfl, shift_of_exec_shiftReg rfl, shift_of_exec_shiftReg rfl,
      shift_of_exec_shiftReg rfl, List.forall_mem_nil _⟩
  · simp only [List.forall_mem_cons]
    exact ⟨shift_of_exec_shiftMem hs rfl, shift_of_exec_shiftMem hs rfl, shift_of_exec_shiftMem hs rfl,
      shift_of_exec_shiftMem hs rfl, shift_of_exec_shiftMem hs rfl, shift_of_exec_shiftMem hs rfl,
      shift_of_exec_shiftMem hs rfl, shift_of_exec_shiftMem hs rfl, shift_of_exec_shiftMem hs rfl,
      shift_of_exec_shiftMem hs rfl, shift_of_exec_shiftMem hs rfl, shift_of_exec_shiftMem hs rfl,
      shift_of_exec_shiftMem hs rfl, shift_of_exec_shiftMem hs rfl, shift_of_exec_shiftMem hs rfl,
      shift_of_exec_shiftMem hs rfl, shift_of_exec_shiftMem hs rfl, shift_of_exec_shiftMem hs rfl,
      shift_of_exec_shiftMem hs rfl, shift_of_exec_shiftMem hs rfl, shift_of_exec_shiftMem hs rfl,
      List.forall_mem_nil _⟩

/-! ## RLD and RRD (48 R498, R509) -/

/-- The value of a byte put together from two digits. -/
theorem toNat_append_digits (hi lo : BitVec 4) : (hi ++ lo : Byte).toNat = hi.toNat * 16 + lo.toNat := by
  rw [BitVec.toNat_append, ← Nat.shiftLeft_add_eq_or_of_lt lo.isLt, Nat.shiftLeft_eq]

/-- An instruction that ends in `acceptDigit` stores its byte at HL, and the flags are those of the new A. -/
theorem digits_of_exec_acceptDigit {i : Instr} {s : State} {m a : Byte} {stored newA : Nat}
    (hs : Memory.wf s.mem = true) (h : exec i s = .next (s.acceptDigit m a)) (hm : m.toNat = stored)
    (ha : a.toNat = newA) :
    ∃ t, exec i s = .next t ∧ StoresByte s t s.hl (BitVec.ofNat 8 stored) ∧ t.a.toNat = newA ∧
      FlagsOfByte t.f t.a ∧ t.f.h = false ∧ t.f.n = false ∧ t.f.c = s.f.c ∧
      t = { s with a := t.a, mem := t.mem, f := t.f, free := t.free } := by
  rw [← opcode_eq_ofNat hm]
  exact ⟨_, h, (State.write8_stores s.hl m hs).congr rfl rfl rfl, ha, .of_sign_zero_parity rfl rfl rfl, rfl, rfl, rfl,
    rfl⟩

/-- Settles O41: both bytes of each form are two digits put together. -/
theorem rotateDigits : Obligations.RotateDigits := by
  intro s hs
  refine ⟨_, rfl, ?_⟩
  rw [List.forall_mem_cons, List.forall_mem_singleton]
  refine ⟨digits_of_exec_acceptDigit hs rfl ?_ ?_, digits_of_exec_acceptDigit hs rfl ?_ ?_⟩
  all_goals
    rw [toNat_append_digits]
    simp only [hiNibble_toNat, loNibble_toNat, State.atHL]

/-! ## Returns (48 R484 to R487) -/

/-- RET cc goes by the row of its condition in the table. -/
theorem retCc_of_mem_conditionTable {s : State} {y : Cond × Bool} (hy : y ∈ conditionTable s.f) :
    exec (.retCc y.1) s = .next (if y.2 = true then s.returnPC else s) := by
  rw [← condHolds_of_mem_conditionTable s.f y hy]
  rfl

/-- Settles O59: each return ends in `returnPC`; RETI and RETN update IFF1, and RETI the bus, as the statement says. -/
theorem returns : Obligations.Returns := by
  rintro s _ rfl
  exact ⟨rfl, fun _ hy => retCc_of_mem_conditionTable hy, rfl, rfl⟩

/-! ## SUB, SBC and CP (00_scope.md R15) -/

/-- An instruction that puts the difference of A and a byte in A, with its flags. -/
theorem difference_of_exec_accept8 {i : Instr} {s : State} {v : Byte} {cin : Bool}
    (h : exec i s = .next (s.accept8 (sub8 s.a v cin))) :
    ∃ t, exec i s = .next t ∧ (t.a.toNat : Int) = ((s.a.toNat : Int) - v.toNat - cin.toNat) % 256 ∧
      DifferenceFlags8 t.f s.a v cin ∧ t = { s with a := t.a, f := t.f, free := t.free } :=
  ⟨_, h, sub8_res_toNat s.a v cin, sub8_flags s.freshFlags s.a v cin, rfl⟩

/-- An instruction that writes the flags of the difference alone. -/
theorem compare_of_exec_storeFlags {i : Instr} {s : State} {v : Byte}
    (h : exec i s = .next (s.storeFlags (sub8 s.a v false).flags)) :
    ∃ t, exec i s = .next t ∧ DifferenceFlags8 t.f s.a v false ∧ t = { s with f := t.f, free := t.free } :=
  ⟨_, h, sub8_flags s.freshFlags s.a v false, rfl⟩

/-- Settles O30: each SUB and SBC ends in `accept8` of its difference, each CP in `storeFlags` of its flags. -/
theorem subtractAndCompareBytes : Obligations.SubtractAndCompareBytes := by
  refine ⟨fun s r n d => ?_, fun s r n d => ?_⟩
  · simp only [List.forall_mem_cons]
    exact ⟨difference_of_exec_accept8 rfl, difference_of_exec_accept8 rfl, difference_of_exec_accept8 rfl,
      difference_of_exec_accept8 rfl, difference_of_exec_accept8 rfl, difference_of_exec_accept8 rfl,
      difference_of_exec_accept8 rfl, difference_of_exec_accept8 rfl, difference_of_exec_accept8 rfl,
      difference_of_exec_accept8 rfl, List.forall_mem_nil _⟩
  · simp only [List.forall_mem_cons]
    exact ⟨compare_of_exec_storeFlags rfl, compare_of_exec_storeFlags rfl, compare_of_exec_storeFlags rfl,
      compare_of_exec_storeFlags rfl, compare_of_exec_storeFlags rfl, List.forall_mem_nil _⟩

/-! ## SET and RES (30_encoding.md R119) -/

/-- `v` with bit `b` written as `on`. -/
def writtenBit (v : Byte) (b : BitVec 3) (on : Bool) : Byte := if on then setBit v b else resetBit v b

theorem bitMask_getLsbD (b : BitVec 3) {k : Nat} (hk : k < 8) : (bitMask b).getLsbD k = decide (k = b.toNat) := by
  rw [bitMask, BitVec.getLsbD_shiftLeft, BitVec.getLsbD_one, Bool.eq_iff_iff]
  simp [hk]
  omega

theorem setBit_getLsbD (v : Byte) (b : BitVec 3) {k : Nat} (hk : k < 8) :
    (setBit v b).getLsbD k = (v.getLsbD k || decide (k = b.toNat)) := by
  rw [setBit, BitVec.getLsbD_or, bitMask_getLsbD b hk]

theorem resetBit_getLsbD (v : Byte) (b : BitVec 3) {k : Nat} (hk : k < 8) :
    (resetBit v b).getLsbD k = (v.getLsbD k && !decide (k = b.toNat)) := by
  rw [resetBit, BitVec.getLsbD_and, BitVec.getLsbD_not, bitMask_getLsbD b hk, decide_eq_true hk, Bool.true_and]

/-- SET and RES write one bit and leave the other seven. -/
theorem writtenBit_getLsbD (v : Byte) (b : BitVec 3) (on : Bool) :
    ∀ k < 8, (writtenBit v b on).getLsbD k = if k = b.toNat then on else v.getLsbD k := by
  intro k hk
  cases on with
  | true =>
    refine (setBit_getLsbD v b hk).trans ?_
    split <;> simp [*]
  | false =>
    refine (resetBit_getLsbD v b hk).trans ?_
    split <;> simp [*]

/-- An instruction that writes one bit of a register. -/
theorem bit_of_exec_writeReg {i : Instr} {s : State} {r : Reg} {b : BitVec 3} {on : Bool}
    (h : exec i s = .next (s.writeReg r (writtenBit (s.readReg r) b on))) :
    ∃ t v, exec i s = .next t ∧ (∀ k < 8, v.getLsbD k = if k = b.toNat then on else (s.readReg r).getLsbD k) ∧
      WritesReg s t r v ∧ t = s.withRegsOf t :=
  ⟨_, _, h, writtenBit_getLsbD _ b on, s.writeReg_spec r _⟩

/-- An instruction that writes one bit of the byte at `x`. -/
theorem bit_of_exec_write8 {i : Instr} {s : State} {x : Word} {b : BitVec 3} {on : Bool} (hs : Memory.wf s.mem = true)
    (h : exec i s = .next (s.write8 x (writtenBit (s.read8 x) b on))) :
    ∃ t v, exec i s = .next t ∧ (∀ k < 8, v.getLsbD k = if k = b.toNat then on else (s.read8 x).getLsbD k) ∧
      StoresByte s t x v ∧ t = { s with mem := t.mem } :=
  ⟨_, _, h, writtenBit_getLsbD _ b on, State.write8_stores x _ hs, rfl⟩

/-- Settles O43: each register form ends in `writeReg` and each memory form in `write8` of `writtenBit`. -/
theorem setResetBit : Obligations.SetResetBit := by
  refine ⟨fun s b r => ?_, fun s b d hs => ?_⟩
  · rw [List.forall_mem_cons, List.forall_mem_singleton]
    exact ⟨bit_of_exec_writeReg rfl, bit_of_exec_writeReg rfl⟩
  · simp only [List.forall_mem_cons]
    exact ⟨bit_of_exec_write8 hs rfl, bit_of_exec_write8 hs rfl, bit_of_exec_write8 hs rfl, bit_of_exec_write8 hs rfl,
      bit_of_exec_write8 hs rfl, bit_of_exec_write8 hs rfl, List.forall_mem_nil _⟩

end Sys2Proof.Machine
end

section
/-! SUPPORT AND PROOFS. Files 60 and 70 of the spec: reset, the acceptance of interrupts, requests that are ignored, the
idle step, and where a step stops. -/

namespace Sys2Proof.Machine

/-! ## What happens at a boundary -/

/-- The step that resets (70_reset_and_hazards.md R650). -/
theorem step_reset {s : State} (h : s.boundaryInput.reset = true) : step s = .next s.afterSampling.resetCpu :=
  if_pos h

/-- At a boundary the CPU is reset, takes a non-maskable or a maskable interrupt, or goes on (60_exceptions.md R603). -/
theorem boundary_choice (s : State) :
    s.boundaryInput.reset = true ∨
    (s.boundaryInput.reset = false ∧ (s.nmiPending = true ∨ s.boundaryInput.nmi = true)) ∨
    (∃ given, s.acceptsInt given) ∨ s.undisturbed := by
  by_cases hreset : s.boundaryInput.reset = true
  · exact .inl hreset
  rw [Bool.not_eq_true] at hreset
  by_cases hnmi : s.nmiPending = true ∨ s.boundaryInput.nmi = true
  · exact .inr (.inl ⟨hreset, hnmi⟩)
  rw [not_or, Bool.not_eq_true, Bool.not_eq_true] at hnmi
  obtain ⟨hpending, hnmi⟩ := hnmi
  by_cases hignored : s.boundaryInput.int = none ∨ s.iff1 = false ∨ s.eiShadow = true
  · exact .inr (.inr (.inr ⟨hreset, hpending, hnmi, hignored⟩))
  rw [not_or, not_or, Bool.not_eq_false, Bool.not_eq_true] at hignored
  obtain ⟨hint, hiff1, hshadow⟩ := hignored
  obtain ⟨given, hgiven⟩ := Option.ne_none_iff_exists'.mp hint
  exact .inr (.inr (.inl ⟨given, hreset, hpending, hnmi, hgiven, hiff1, hshadow⟩))

/-- Settles O7: the step is `resetCpu` with the boundary's requests used up. -/
theorem resetEvent : Obligations.ResetEvent := fun _ h => step_reset h

/-! ## Entries that run no instruction (60_exceptions.md R608 to R610) -/

/-- An advance of R behind a known state changes R and the counter of that state. -/
theorem State.advanceR_of_eq {u w : State} (cause : Option Instr) (h : u = w) :
    u.advanceR cause = { w with r := (u.advanceR cause).r, free := (u.advanceR cause).free } := by
  subst h
  rfl

/-- Settles O12: the entry is that of `acceptNmi_spec`, from the state whose requests are sampled. -/
theorem nmiEntry : Obligations.NmiEntry := by
  intro s hs hreset hnmi
  obtain ⟨stores, frame⟩ := State.acceptNmi_spec (s := s.afterSampling) hs
  refine ⟨_, step_nmi hreset hnmi, stores.congr rfl rfl rfl, ?_⟩
  rw [State.advanceR_mem]
  exact State.advanceR_of_eq none frame

theorem acceptInt_im1_spec {s : State} {given : List Byte} (hs : Memory.wf s.mem = true) (hmode : s.im = .im1) :
    ∃ t, acceptInt s given = .next t ∧ StoresWord s t (s.sp - 2#16) s.pc ∧
      t = { s with pc := 0x0038#16, sp := s.sp - 2#16, mem := t.mem, halted := false, eiShadow := false,
                   iff1 := false, iff2 := false, r := t.r, free := t.free } := by
  obtain ⟨stores, frame⟩ := State.acceptMode1_spec hs
  refine ⟨_, acceptInt_im1 hmode, stores.congr rfl rfl rfl, ?_⟩
  rw [State.advanceR_mem]
  exact State.advanceR_of_eq none frame

/-- Settles O13: the entry is that of `acceptInt_im1_spec`, from the state whose requests are sampled. -/
theorem intMode1Entry : Obligations.IntMode1Entry := by
  intro s given hs haccepts hmode
  obtain ⟨t, hentry, stores, frame⟩ :=
    acceptInt_im1_spec (s := { s with inputs := s.inputs.tail }) (given := given) hs hmode
  exact ⟨t, (step_acceptsInt haccepts).trans hentry, stores.congr rfl rfl rfl, frame⟩

/-- In mode 2 PC is pushed, and then the table entry is read, where it can be read. -/
theorem acceptInt_im2_spec {s : State} {given : List Byte} (hs : Memory.wf s.mem = true) (hmode : s.im = .im2) :
    ∃ t v, acceptInt s given = .next t ∧ (∀ w more, given = w :: more → v = w) ∧
      StoresWord s t (s.sp - 2#16) s.pc ∧
      (s.kindAt (mkWord s.i v) ≠ .unmapped → loByte t.pc = t.held (mkWord s.i v)) ∧
      (s.kindAt (mkWord s.i v + 1#16) ≠ .unmapped → hiByte t.pc = t.held (mkWord s.i v + 1#16)) ∧
      t = { s with pc := t.pc, sp := s.sp - 2#16, mem := t.mem, halted := false, eiShadow := false,
                   iff1 := false, iff2 := false, r := t.r, free := t.free } := by
  obtain ⟨stores, frame⟩ := State.respondMode2_spec (s := s.acceptIntCommon.drawn) (s.suppliedVector given) hs
  have readable {x : Word} (hx : s.kindAt x ≠ .unmapped) :=
    State.read8_held (s := s.acceptIntCommon.drawn.push16 s.pc) (x := x) hx
  refine ⟨_, s.suppliedVector given, acceptInt_im2 hmode, ?_, stores.congr rfl rfl rfl,
    fun hx => (loByte_mkWord _ _).trans (readable hx), fun hx => (hiByte_mkWord _ _).trans (readable hx), ?_⟩
  · rintro w more rfl
    rfl
  · rw [State.advanceR_mem, State.advanceR_pc]
    exact State.advanceR_of_eq none frame

/-- Settles O14: the entry is that of `acceptInt_im2_spec`, from the state whose requests are sampled. -/
theorem intMode2Entry : Obligations.IntMode2Entry := by
  intro s given hs haccepts hmode
  obtain ⟨t, v, hentry, vector, stores, low, high, frame⟩ :=
    acceptInt_im2_spec (s := { s with inputs := s.inputs.tail }) (given := given) hs hmode
  exact ⟨t, v, (step_acceptsInt haccepts).trans hentry, vector, stores.congr rfl rfl rfl, low, high, frame⟩

/-! ## Mode 0 (60_exceptions.md R607) -/

/-- The step that accepts a maskable interrupt in mode 0 runs what the supplied bytes decode to. -/
theorem step_mode0 {s : State} {given : List Byte} (h : s.acceptsInt given) (hmode : s.im = .im0) :
    step s = runDecoded s (fun _ => { s with halted := false, eiShadow := false, iff1 := false, iff2 := false,
                                             inputs := s.inputs.tail, free := s.free + 5 })
      (decode (s.suppliedBytes given)) :=
  (step_acceptsInt h).trans (acceptInt_im0 (s := { s with inputs := s.inputs.tail }) hmode)

theorem length_encode_le_four (i : Instr) : (encode i).length ≤ 4 := by
  rw [length_encode]
  cases i <;> exact Nat.le_of_ble_eq_true rfl

/-- A device that supplies the encoding of an instruction is read as supplying that instruction. -/
theorem decode_suppliedBytes {i : Instr} (hi : i.wellFormed = true) (s : State) (rest : List Byte) :
    ∃ rest', decode (s.suppliedBytes (encode i ++ rest)) = .ok (i, rest') := by
  rw [State.suppliedBytes, List.append_assoc, List.take_append, List.take_of_length_le (length_encode_le_four i)]
  exact ⟨_, decodeEncode i _ hi⟩

/-- Settles O15: whichever way the supplied instruction is known, the supplied bytes decode to it, and `step_mode0` runs
it. -/
theorem intMode0RunsSupplied : Obligations.IntMode0RunsSupplied := by
  intro s given haccepts hmode
  obtain ⟨begins, four⟩ := s.suppliedBytes_spec given
  refine ⟨begins, four, fun i rest hsupplied => ?_⟩
  have hdecode : ∃ rest', decode (s.suppliedBytes given) = .ok (i, rest') := by
    rcases hsupplied with ⟨hi, rfl⟩ | hdecode
    · exact decode_suppliedBytes hi s rest
    · exact ⟨rest, hdecode⟩
  obtain ⟨rest', hdecode⟩ := hdecode
  obtain ⟨t, ht⟩ := exec_next i { s with halted := false, eiShadow := false, iff1 := false, iff2 := false,
                                         inputs := s.inputs.tail, free := s.free + 5 }
  rw [step_mode0 haccepts hmode, hdecode, runDecoded_of_exec ht, ht]
  rfl

/-! ## Requests that are ignored (60_exceptions.md R602) -/

/-- A boundary at which maskable interrupts are not enabled does not look at the request. -/
theorem boundary_of_not_intEnabled {s : State} (h : s.intEnabled = false) (x : BoundaryInput) :
    boundary s x = boundary s { x with int := none } := by
  unfold boundary
  cases x.int with
  | none => rfl
  | some given => simp [h]

/-- The step of a state whose coming request is known. -/
theorem step_of_inputs_cons {s : State} {x : BoundaryInput} {more : List BoundaryInput} (h : s.inputs = x :: more) :
    step s = boundary { s with inputs := more, nmiPending := s.nmiPending || x.nmi } x := by
  unfold step oneStep State.afterSampling State.boundaryInput
  rw [h]
  rfl

/-- Settles O16: the boundary does not look at the request, which is used up either way. -/
theorem maskedRequestIsIgnored : Obligations.MaskedRequestIsIgnored := by
  intro s x more hinputs hmasked
  have disabled : s.intEnabled = false := by
    unfold State.intEnabled
    rcases hmasked with h | h <;> simp [h]
  rw [step_of_inputs_cons hinputs, step_of_inputs_cons (s := { s with inputs := _ :: more }) rfl]
  exact boundary_of_not_intEnabled (s := { s with inputs := more, nmiPending := s.nmiPending || x.nmi }) disabled x

/-- Settles O18: the step is `idle`, which ends the hold-off and lets R advance. -/
theorem haltedStepIsIdle : Obligations.HaltedStepIsIdle := fun _ hquiet hhalted =>
  ⟨_, step_halted hquiet hhalted, rfl⟩

/-! ## Where a step stops (30_encoding.md R135; 60_exceptions.md R600) -/

theorem edDefined_ne_truncated (op : Byte) (t : Option Instr) (rest : List Byte) :
    edDefined op t rest ≠ .error .truncated := by
  cases t <;> exact nofun

theorem decodeCB_ne_truncated (op : Byte) (rest : List Byte) : decodeCB (op :: rest) ≠ .error .truncated := by
  rw [decodeCB]
  split <;> exact nofun

theorem decodeED_ne_truncated (op x y : Byte) (rest : List Byte) :
    decodeED (op :: x :: y :: rest) ≠ .error .truncated := by
  rw [decodeED]
  split
  case h_3 | h_4 => split <;> exact nofun
  case h_7 => exact nofun
  all_goals exact edDefined_ne_truncated _ _ _

theorem decodeIndexCB_ne_truncated (pre : Byte) (table : Byte → Byte → Option Instr) (d op : Byte)
    (rest : List Byte) :
    decodeIndexCB pre table (d :: op :: rest) ≠ .error .truncated := by
  rw [decodeIndexCB]
  split <;> exact nofun

theorem decodeDD_ne_truncated (op x y : Byte) (rest : List Byte) :
    decodeDD (op :: x :: y :: rest) ≠ .error .truncated := by
  rw [decodeDD]
  split
  case h_13 => exact decodeIndexCB_ne_truncated _ _ _ _ _
  case h_19 => split <;> exact nofun
  all_goals exact nofun

theorem decodeFD_ne_truncated (op x y : Byte) (rest : List Byte) :
    decodeFD (op :: x :: y :: rest) ≠ .error .truncated := by
  rw [decodeFD]
  split
  case h_13 => exact decodeIndexCB_ne_truncated _ _ _ _ _
  case h_19 => split <;> exact nofun
  all_goals exact nofun

/-- Four bytes are never too few: no instruction has more (log entry 21). -/
theorem decode_ne_truncated (op x y z : Byte) : decode [op, x, y, z] ≠ .error .truncated := by
  by_cases hop : op ∈ [0xCB#8, 0xDD#8, 0xED#8, 0xFD#8]
  · simp only [List.mem_cons, List.not_mem_nil, or_false] at hop
    rcases hop with rfl | rfl | rfl | rfl
    · exact decodeCB_ne_truncated x [y, z]
    · exact decodeDD_ne_truncated x y z []
    · exact decodeED_ne_truncated x y z []
    · exact decodeFD_ne_truncated x y z []
  · obtain ⟨-, -, -, unprefixed⟩ := undefinedEncodings op 0 x y [z]
    obtain ⟨i, tail, hdecode⟩ := unprefixed hop
    rw [hdecode]
    exact nofun

/-- Four bytes are an instruction or an undefined encoding. -/
theorem decode_four_cases {bytes : List Byte} (h : bytes.length = 4) :
    (∃ i rest, decode bytes = .ok (i, rest)) ∨ ∃ named, decode bytes = .error (.undefinedEncoding named) := by
  obtain ⟨op, x, y, z, rfl⟩ : ∃ op x y z, bytes = [op, x, y, z] := by
    match bytes, h with
    | [op, x, y, z], _ => exact ⟨op, x, y, z, rfl⟩
  cases hdecode : decode [op, x, y, z] with
  | ok found => exact .inl ⟨found.1, found.2, rfl⟩
  | error e =>
    cases e with
    | truncated => exact absurd hdecode (decode_ne_truncated op x y z)
    | undefinedEncoding named => exact .inr ⟨named, rfl⟩

/-- The step runs into the undefined encoding `bytes`, fetched at PC or supplied by a device in mode 0. -/
def MeetsUndefined (s : State) (bytes : List Byte) : Prop :=
  (s.undisturbed ∧ s.halted = false ∧ decode s.fetchBytes = .error (.undefinedEncoding bytes)) ∨
  ∃ given, s.acceptsInt given ∧ s.im = .im0 ∧ decode (s.suppliedBytes given) = .error (.undefinedEncoding bytes)

/-- An undefined encoding stops the step. -/
theorem step_of_meetsUndefined {s : State} {bytes : List Byte} (h : MeetsUndefined s bytes) :
    step s = stopUndefined s.params.undefOpcode bytes := by
  rcases h with ⟨hquiet, hrun, hdecode⟩ | ⟨given, haccepts, hmode, hdecode⟩
  · rw [step_fetch hquiet hrun, hdecode]
    rfl
  · rw [step_mode0 haccepts hmode, hdecode]
    rfl

/-- A decoded instruction answers a next state (60_exceptions.md R600). -/
theorem runDecoded_ok_next (s : State) (start : Instr → State) (i : Instr) (rest : List Byte) :
    ∃ t, runDecoded s start (.ok (i, rest)) = .next t := by
  obtain ⟨t, ht⟩ := exec_next i (start i)
  exact ⟨_, runDecoded_of_exec ht⟩

/-- Nothing else stops a step. -/
theorem step_next_or_meetsUndefined (s : State) : (∃ t, step s = .next t) ∨ ∃ bytes, MeetsUndefined s bytes := by
  rcases boundary_choice s with hreset | ⟨hreset, hnmi⟩ | ⟨given, haccepts⟩ | hquiet
  · exact .inl ⟨_, step_reset hreset⟩
  · exact .inl ⟨_, step_nmi hreset hnmi⟩
  · cases hmode : s.im with
    | im0 =>
      rcases decode_four_cases (s.suppliedBytes_spec given).2 with ⟨i, rest, hdecode⟩ | ⟨named, hdecode⟩
      · rw [step_mode0 haccepts hmode, hdecode]
        exact .inl (runDecoded_ok_next _ _ i rest)
      · exact .inr ⟨named, .inr ⟨given, haccepts, hmode, hdecode⟩⟩
    | im1 => exact .inl ⟨_, (step_acceptsInt haccepts).trans (acceptInt_im1 hmode)⟩
    | im2 => exact .inl ⟨_, (step_acceptsInt haccepts).trans (acceptInt_im2 hmode)⟩
  · cases hhalted : s.halted with
    | true => exact .inl ⟨_, step_halted hquiet hhalted⟩
    | false =>
      rcases decode_four_cases (bytes := s.fetchBytes) rfl with ⟨i, rest, hdecode⟩ | ⟨named, hdecode⟩
      · rw [step_fetch hquiet hhalted, hdecode]
        exact .inl (runDecoded_ok_next _ _ i rest)
      · exact .inr ⟨named, .inl ⟨hquiet, hhalted, hdecode⟩⟩

/-- Settles O6: `step_of_meetsUndefined` for the stop, `step_next_or_meetsUndefined` for every other state. -/
theorem stopsExactlyAtUndefinedEncodings : Obligations.StopsExactlyAtUndefinedEncodings := by
  refine fun s => ⟨fun bytes hmeets => ?_, step_next_or_meetsUndefined s⟩
  have hstop := step_of_meetsUndefined hmeets
  exact ⟨fun hparam => hstop.trans (by rw [hparam]; rfl), fun hparam => hstop.trans (by rw [hparam]; rfl)⟩

end Sys2Proof.Machine
end
